-- ==== Sys2Proof/Word.lean ====
section
/-! DEFINITION. Characters and texts: the words of the part's serial lines. -/

namespace Sys2Proof

/-- One character of a serial line, or one byte of the settings memory. -/
abbrev Byte := BitVec 8

/-- A text: characters in the order they are sent. -/
abbrev Text := List Byte

/-- The character codes of a word that the manual writes in letters. -/
def ascii (w : String) : Text := w.toList.map fun c => BitVec.ofNat 8 c.toNat

end Sys2Proof
end

