-- ==== Sys2Proof/Syntax.lean ====
section
/-! DEFINITION. The yard's names and the commands: one constructor of Instr for each row of spec/opcode_table.json. -/

namespace Sys2Proof

/-- The two weighbridge decks (00_scope.md, The yard). -/
inductive Deck where
  | a | b
deriving DecidableEq, Repr

/-- The three platforms: A and B in SPLIT mode, AB in COMBINED mode (R94). -/
inductive Platform where
  | a | b | ab
deriving DecidableEq, Repr

/-- The six barriers, in the order of section 4.1. -/
inductive Barrier where
  | aN | aS | bN | bS | eN | eX
deriving DecidableEq, Repr

/-- The four input lines of a barrier, in the order LOOP, BEAM, UP, DOWN (R60). -/
inductive Line where
  | loop | beam | up | down
deriving DecidableEq, Repr

/-- A field input: a line of a barrier (section 4.1). -/
structure InputId where
  bar : Barrier
  line : Line
deriving DecidableEq, Repr

/-- The seven tag readers, by address (00_scope.md, Readers). -/
inductive Reader where
  | r1 | r2 | r3 | r4 | r5 | r6 | r7
deriving DecidableEq, Repr

/-- The two site gates. -/
inductive Gate where
  | entry | exit
deriving DecidableEq, Repr

/-- The two ticket printers. -/
inductive Printer where
  | a | b
deriving DecidableEq, Repr

/-- A character or byte as a receiver takes it: its code, and whether it carried a framing error (R1, R75, R202). -/
structure RxByte where
  code : Byte
  faulty : Bool
deriving DecidableEq, Repr

/-- Why READER_REPORT_ABANDONED comes about (R74): a '#' inside the report, or 20 characters without a CR. -/
inductive AbandonCause where
  | hashInside | tooLong
deriving DecidableEq, Repr

/-- A report that is abandoned (R74): why, and whether its own '#' arrived while the part was STARTING. -/
structure AbandonedReport where
  cause : AbandonCause
  begunStarting : Bool
deriving DecidableEq, Repr

/-- Which memory transfers of a load go unacknowledged: the header's, and those of sections 1 to 7 (R211). -/
structure Unacked where
  header : Bool
  sections : List Nat
deriving DecidableEq, Repr

/-- The commands. A host request carries its fields as the texts that follow its name in the frame's body (R204). -/
inductive Instr where
  | digitiserBurstEnd (d : Deck) (bytes : List RxByte)
  | frameTimerExpiry (d : Deck)
  | consumeFrame (d : Deck)
  | consumePair
  | diag (fields : List Text)
  | weight (fields : List Text)
  | zero (fields : List Text)
  | captureTimerExpiry (p : Platform)
  | inputRawChange (i : InputId) (high : Bool)
  | debounceExpiry (i : InputId)
  | inputOverride (fields : List Text)
  | inputs (fields : List Text)
  | travelTimerExpiry (b : Barrier)
  | barrierReset (fields : List Text)
  | readerReportEnd (chars : List RxByte) (begunStarting : Bool)
  | repeatHoldExpiry (r : Reader)
  | gateHoldExpiry (g : Gate)
  | admitVehicle (fields : List Text)
  | refuse (fields : List Text)
  | gateOpen (fields : List Text)
  | grant (p : Platform)
  | callTimerExpiry (p : Platform)
  | platformRetry (fields : List Text)
  | platformRelease (fields : List Text)
  | platformAbort (fields : List Text)
  | platformAccept (fields : List Text)
  | platformMode (fields : List Text)
  | platform (fields : List Text)
  | signMessageSent
  | call (fields : List Text)
  | queue (fields : List Text)
  | vehicleGet (fields : List Text)
  | vehiclePut (fields : List Text)
  | vehicleDelete (fields : List Text)
  | accountGet (fields : List Text)
  | accountPut (fields : List Text)
  | accountStatus (fields : List Text)
  | accountDelete (fields : List Text)
  | visitResolve (fields : List Text)
  | cancel (fields : List Text)
  | holdVisit (fields : List Text)
  | requeue (fields : List Text)
  | visit (fields : List Text)
  | visitList (fields : List Text)
  | journalRead (fields : List Text)
  | journalRelease (fields : List Text)
  | ticketTextSent (p : Printer)
  | printerStatusChar (p : Printer) (c : Byte)
  | statusTimerExpiry (p : Printer)
  | enquiryTimerExpiry (p : Printer)
  | printSuppress (fields : List Text)
  | reprint (fields : List Text)
  | oneSecondTick
  | timeSet (fields : List Text)
  | linkWatch (fields : List Text)
  | silenceTimerExpiry
  | officeFrameEnd (chars : List RxByte)
  | frameGapTimeout
  | officeFrameSent (unacked : Unacked)
  | noticeEnable (fields : List Text)
  | status (fields : List Text)
  | settingsRead (fields : List Text)
  | settingsWrite (fields : List Text)
  | settingsTransferAck
  | settingsTransferTimeout
  | powerOn (bkok : Bool) (kept : Bool) (unacked : Unacked)
  | resetInput (unacked : Unacked)
  | restart (fields : List Text)
  | officeLinkStart
  | startingEnd
  | readerReportAbandoned (report : AbandonedReport)
  | syncPulseEnd
deriving DecidableEq, Repr

end Sys2Proof
end

