-- ==== Sys2Proof/Decode.lean ====
section
/-! DEFINITION. The command a word spells. The opcode table gives no row any bits (each row's fields are empty), so no word
spells a command: commands reach the part as events of its lines, not as words. -/

namespace Sys2Proof

/-- The command that the word w of nbits bits spells by the table's bits: none, for the table gives none. -/
def decodeTableWord (_nbits _w : Nat) : Option Instr := none

end Sys2Proof
end

