-- ==== Sys2Proof/Config.lean ====
section
/-! DEFINITION. What the manual leaves free: constants with no body, so that no proof can see their value. -/

namespace Sys2Proof

/-- FREE VALUE (log 4). The byte that stands at an address of the settings memory after a transfer that was sent and not
acknowledged (R214 says only what the part does then). The first argument numbers the transfer, the second is the address. -/
opaque Config.freeByte : Nat → Nat → Byte

/-- FREE VALUE (log 4). Whether the memory took a new calibration counter from a transfer that was sent and not acknowledged (step
3 of R214). The argument numbers the transfer. -/
opaque Config.counterTaken : Nat → Bool

end Sys2Proof
end

