-- ==== Sys2Proof/Machine/State.lean ====
section
/-! DEFINITION. The state of the part, as plain data, and its reset value. -/

namespace Sys2Proof.Machine

/-! ## Containers: one value for each deck, platform, barrier, line, reader, gate, printer -/

structure PerDeck (α : Type) where
  a : α
  b : α
deriving DecidableEq, Repr

structure PerPlatform (α : Type) where
  a : α
  b : α
  ab : α
deriving DecidableEq, Repr

structure PerBarrier (α : Type) where
  aN : α
  aS : α
  bN : α
  bS : α
  eN : α
  eX : α
deriving DecidableEq, Repr

structure PerLine (α : Type) where
  loop : α
  beam : α
  up : α
  down : α
deriving DecidableEq, Repr

structure PerReader (α : Type) where
  r1 : α
  r2 : α
  r3 : α
  r4 : α
  r5 : α
  r6 : α
  r7 : α
deriving DecidableEq, Repr

structure PerGate (α : Type) where
  entry : α
  exit : α
deriving DecidableEq, Repr

structure PerPrinter (α : Type) where
  a : α
  b : α
deriving DecidableEq, Repr

def PerDeck.get {α : Type} (x : PerDeck α) : Deck → α
  | .a => x.a
  | .b => x.b

def PerDeck.set {α : Type} (x : PerDeck α) (d : Deck) (v : α) : PerDeck α :=
  match d with
  | .a => { x with a := v }
  | .b => { x with b := v }

def PerPlatform.get {α : Type} (x : PerPlatform α) : Platform → α
  | .a => x.a
  | .b => x.b
  | .ab => x.ab

def PerPlatform.set {α : Type} (x : PerPlatform α) (p : Platform) (v : α) : PerPlatform α :=
  match p with
  | .a => { x with a := v }
  | .b => { x with b := v }
  | .ab => { x with ab := v }

def PerBarrier.get {α : Type} (x : PerBarrier α) : Barrier → α
  | .aN => x.aN
  | .aS => x.aS
  | .bN => x.bN
  | .bS => x.bS
  | .eN => x.eN
  | .eX => x.eX

def PerBarrier.set {α : Type} (x : PerBarrier α) (b : Barrier) (v : α) : PerBarrier α :=
  match b with
  | .aN => { x with aN := v }
  | .aS => { x with aS := v }
  | .bN => { x with bN := v }
  | .bS => { x with bS := v }
  | .eN => { x with eN := v }
  | .eX => { x with eX := v }

def PerLine.get {α : Type} (x : PerLine α) : Line → α
  | .loop => x.loop
  | .beam => x.beam
  | .up => x.up
  | .down => x.down

def PerLine.set {α : Type} (x : PerLine α) (l : Line) (v : α) : PerLine α :=
  match l with
  | .loop => { x with loop := v }
  | .beam => { x with beam := v }
  | .up => { x with up := v }
  | .down => { x with down := v }

def PerReader.get {α : Type} (x : PerReader α) : Reader → α
  | .r1 => x.r1
  | .r2 => x.r2
  | .r3 => x.r3
  | .r4 => x.r4
  | .r5 => x.r5
  | .r6 => x.r6
  | .r7 => x.r7

def PerReader.set {α : Type} (x : PerReader α) (r : Reader) (v : α) : PerReader α :=
  match r with
  | .r1 => { x with r1 := v }
  | .r2 => { x with r2 := v }
  | .r3 => { x with r3 := v }
  | .r4 => { x with r4 := v }
  | .r5 => { x with r5 := v }
  | .r6 => { x with r6 := v }
  | .r7 => { x with r7 := v }

def PerGate.get {α : Type} (x : PerGate α) : Gate → α
  | .entry => x.entry
  | .exit => x.exit

def PerGate.set {α : Type} (x : PerGate α) (g : Gate) (v : α) : PerGate α :=
  match g with
  | .entry => { x with entry := v }
  | .exit => { x with exit := v }

def PerPrinter.get {α : Type} (x : PerPrinter α) : Printer → α
  | .a => x.a
  | .b => x.b

def PerPrinter.set {α : Type} (x : PerPrinter α) (p : Printer) (v : α) : PerPrinter α :=
  match p with
  | .a => { x with a := v }
  | .b => { x with b := v }

/-- The input of a line of a barrier. -/
def PerBarrier.input {α : Type} (x : PerBarrier (PerLine α)) (i : InputId) : α := (x.get i.bar).get i.line

def PerBarrier.setInput {α : Type} (x : PerBarrier (PerLine α)) (i : InputId) (v : α) : PerBarrier (PerLine α) :=
  x.set i.bar ((x.get i.bar).set i.line v)

/-- A timer (R188): stopped (none), or running with so many 1 ms ticks left. -/
abbrev Timer := Option Nat

/-! ## Part -/

inductive Phase where
  | starting | running
deriving DecidableEq, Repr

inductive ResetKind where
  | cold | warm
deriving DecidableEq, Repr

structure Part where
  phase : Phase
  lastReset : ResetKind
  signatureGood : Bool
deriving DecidableEq, Repr

/-! ## Load-cell intake (chapter 1) -/

inductive LinkState where
  | absent | running | stale | fault
deriving DecidableEq, Repr

/-- The supervision record of a cell (R6). -/
structure Cell where
  faulted : Bool
  badRun : Nat
  goodRun : Nat
  last : Int
deriving DecidableEq, Repr

/-- An entry of an intake (R8). -/
structure FrameEntry where
  counter : Byte
  samples : List Int
  badChannel : Bool
  cellFault : Bool
deriving DecidableEq, Repr

/-- The diagnostic counters of a deck (R17). -/
structure Counters where
  badFrames : Nat
  dropped : Nat
  gaps : Nat
  pairSlips : Nat
  refills : Nat
  staleEvents : Nat
deriving DecidableEq, Repr

structure Intake where
  link : LinkState
  timer : Timer
  stale : Nat
  last : Option Byte
  entries : List FrameEntry
  refill : Bool
  cells : List Cell
  counts : Counters
deriving DecidableEq, Repr

/-! ## Weighing engine (chapters 2 and 3) -/

/-- The flags of a weight result, in the order of R31. -/
structure Flags where
  valid : Bool
  stable : Bool
  zeroCentre : Bool
  overload : Bool
  underload : Bool
  aboveMax : Bool
  belowMin : Bool
  clamped : Bool
  stale : Bool
  refill : Bool
  uncalibrated : Bool
deriving DecidableEq, Repr

/-- A weight result (R31): W in kg, A in grams. -/
structure Result where
  seq : Nat
  w : Option Int
  a : Option Int
  flags : Flags
deriving DecidableEq, Repr

/-- Why a capture's last result did not succeed (R48). -/
inductive CaptureReason where
  | invalid | aboveMax | belowMin | motion
deriving DecidableEq, Repr

/-- An open capture (section 3.5). Its timer runs from the opening, so it holds the ticks left. -/
structure Capture where
  lastReason : Option CaptureReason
  timer : Nat
deriving DecidableEq, Repr

structure Chain where
  window : List Int
  stab : List Int
  seq : Nat
  latest : Result
  z : Int
  zeroRange : Bool
  pendingZero : Bool
  capture : Option Capture
deriving DecidableEq, Repr

/-- A weighing record (R52). -/
structure WeighRec where
  weight : Int
  number : Nat
  platform : Platform
  day : Nat
  second : Nat
  unset : Bool
deriving DecidableEq, Repr

/-! ## Field signals and barriers (chapter 4) -/

inductive Override where
  | none | forceActive | forceInactive
deriving DecidableEq, Repr

/-- A field input: raw electrical level (true: high), debounced level (true: active), override, debounce in progress. -/
structure Input where
  high : Bool
  deb : Bool
  override : Override
  debounce : Timer
deriving DecidableEq, Repr

/-- The outputs of a barrier: true is ON. -/
structure Drive where
  raise : Bool
  lower : Bool
  green : Bool
deriving DecidableEq, Repr

inductive BarState where
  | down | raising | up | lowering | fault
deriving DecidableEq, Repr

inductive FaultCause where
  | travelRaise | travelLower | limits
deriving DecidableEq, Repr

structure Bar where
  state : BarState
  lowerPending : Bool
  lamp : Bool
  cause : Option FaultCause
  timer : Timer
deriving DecidableEq, Repr

/-! ## Readers and gates (chapter 5) -/

inductive HoldTimer where
  | stopped | running (left : Nat) | expired
deriving DecidableEq, Repr

structure RecentRead where
  tag : Option Text
  hold : HoldTimer
deriving DecidableEq, Repr

inductive GateState where
  | closed | opened | waitHost
deriving DecidableEq, Repr

structure GateRec where
  state : GateState
  openFor : Option Nat
  seen : Bool
  pendingTag : Option Text
  timer : Timer
deriving DecidableEq, Repr

/-! ## Platforms (chapter 6) -/

inductive Mode where
  | split | combined
deriving DecidableEq, Repr

inductive DeckEnd where
  | north | south
deriving DecidableEq, Repr

inductive PlatState where
  | free | calling | entering | positioning | weighing | awaiting | exiting | hold | switching
deriving DecidableEq, Repr

inductive ExitOutcome where
  | nextTipping | nextCleared | nextQueued
deriving DecidableEq, Repr

inductive HoldReason where
  | invalid | aboveMax | belowMin | motion | noResult | barrier | reset | host
deriving DecidableEq, Repr

inductive ResumePoint where
  | none | positioning | awaiting | exit
deriving DecidableEq, Repr

/-- The platform record (section 6.2). -/
structure PlatRec where
  state : PlatState
  visit : Option Nat
  entryEnd : DeckEnd
  wrong : Bool
  callTimer : Timer
  outcome : Option ExitOutcome
  beamSeen : Bool
  passed : Bool
  holdReason : Option HoldReason
  resume : Option ResumePoint
deriving DecidableEq, Repr

/-- A sign message (R119, section 6.11). -/
inductive SignMsg where
  | blank
  | closed
  | call (registration : Text) (entryEnd : DeckEnd)
  | wrongVehicle (registration : Text) (entryEnd : DeckEnd)
  | wait (registration : Text)
  | driveOn (registration : Text)
  | seeOffice (registration : Text)
deriving DecidableEq, Repr

/-- The sign line (R118). Sign A and sign B are named by their decks' letters. -/
structure SignLine where
  lastSent : PerDeck (Option SignMsg)
  waiting : List (Deck × SignMsg)
  sending : Option (Deck × SignMsg)
deriving DecidableEq, Repr

structure Platforms where
  mode : Mode
  target : Option Mode
  accepting : PerDeck Bool
  recs : PerPlatform PlatRec
  signs : SignLine
deriving DecidableEq, Repr

/-! ## Call queue and allocation (chapter 7) -/

structure QueueEntry where
  visit : Nat
  mark : Option Platform
deriving DecidableEq, Repr

structure Allocator where
  queue : List QueueEntry
  flight : PerPlatform (Option Nat)
deriving DecidableEq, Repr

/-! ## Tables (chapter 8) -/

inductive Length where
  | standard | long
deriving DecidableEq, Repr

inductive Direction where
  | inbound | outbound
deriving DecidableEq, Repr

/-- A stored tare (section 8.5). -/
structure StoredTare where
  weight : Int
  number : Nat
  platform : Platform
  day : Nat
  unset : Bool
deriving DecidableEq, Repr

/-- A vehicle record (section 8.1). -/
structure Vehicle where
  tag : Text
  registration : Text
  account : Nat
  cls : Nat
  length : Length
  direction : Direction
  estimate : Nat
  tare : Option StoredTare
  validity : Nat
  blocked : Bool
  refreshTare : Bool
deriving DecidableEq, Repr

/-- A platform mask: any subset of A, B, AB. -/
structure PlatMask where
  a : Bool
  b : Bool
  ab : Bool
deriving DecidableEq, Repr

/-- An account record (section 8.2), less its number. -/
structure Account where
  name : Text
  active : Bool
  allowance : Option Nat
  dayUsed : Nat
  reserved : Nat
  mask : PlatMask
  tarePermitted : Bool
deriving DecidableEq, Repr

/-- The vehicle table by slot (0 to 1023) and the account table by number (0 to 127), each listed in rising order. -/
structure Tables where
  vehicles : List (Nat × Vehicle)
  accounts : List (Nat × Account)
deriving DecidableEq, Repr

/-! ## Visits (chapter 9) -/

inductive PassMode where
  | single | two
deriving DecidableEq, Repr

inductive VisitState where
  | queued | called | onDeck | query | printWait | tipping | held | cleared
deriving DecidableEq, Repr

inductive Leg where
  | first | second
deriving DecidableEq, Repr

inductive VisitHold where
  | noShow | host
deriving DecidableEq, Repr

/-- A visit record (section 9.1). -/
structure Visit where
  id : Nat
  tag : Text
  vehicle : Option Nat
  registration : Text
  account : Nat
  cls : Nat
  length : Length
  direction : Direction
  pass : PassMode
  estimate : Nat
  state : VisitState
  leg : Leg
  first : Option WeighRec
  second : Option WeighRec
  tare : Option StoredTare
  net : Option Nat
  holdReason : Option VisitHold
  noShows : Nat
  entered : Bool
  journalled : Bool
  voided : Bool
  zeroNet : Bool
  tareRefreshed : Bool
  ticket : Option Nat
  admDay : Nat
  admSecond : Nat
  admUnset : Bool
deriving DecidableEq, Repr

structure Visits where
  table : List Visit
  nextId : Nat
deriving DecidableEq, Repr

/-! ## Tickets (chapter 10) -/

inductive EntryKind where
  | transaction | void
deriving DecidableEq, Repr

/-- A journal entry (section 10.2). -/
structure JournalEntry where
  ticket : Nat
  kind : EntryKind
  visit : Nat
  tag : Text
  registration : Text
  account : Nat
  direction : Direction
  pass : PassMode
  first : Option WeighRec
  second : Option WeighRec
  tare : Option StoredTare
  net : Option Nat
  zeroNet : Bool
  tareRefreshed : Bool
  unset : Bool
  calCounter : Nat
  day : Nat
  secondOfDay : Nat
deriving DecidableEq, Repr

/-- A ticket in a print queue (R179). A blank account name is the empty text. -/
structure Ticket where
  content : JournalEntry
  accountName : Text
  copy : Bool
  reprint : Bool
deriving DecidableEq, Repr

inductive PrinterState where
  | offline | ready | printing | paperOut
deriving DecidableEq, Repr

structure PrinterRec where
  state : PrinterState
  statusTimer : Timer
  enquiryTimer : Timer
  sending : Option Text
  queue : List Ticket
  suppressed : Bool
  enqSent : Nat
deriving DecidableEq, Repr

structure Tickets where
  journal : List JournalEntry
  nextTicket : Nat
  printers : PerPrinter PrinterRec
deriving DecidableEq, Repr

/-! ## Time base and link silence (chapter 11) -/

structure TimeBase where
  msDivider : Nat
  subMs : Nat
  day : Nat
  second : Nat
  valid : Bool
  lastValid : Option Nat
deriving DecidableEq, Repr

/-- The link silence timer. ARMED is a period present. -/
structure Watch where
  period : Option Nat
  online : Bool
  timer : Timer
  offlineMs : Nat
deriving DecidableEq, Repr

/-! ## Office link (chapter 12) -/

/-- A field of a frame the part sends: a word, a number in decimal, a text, or an empty field. -/
inductive Field where
  | word (w : String)
  | num (n : Int)
  | text (t : Text)
  | empty
deriving DecidableEq, Repr

inductive ErrCode where
  | frame | unknown | args | range | state | busy | full | notFound | inUse | config | invalid | motion | starting
deriving DecidableEq, Repr

/-- A reply (R205). -/
inductive Reply where
  | ok (fields : List Field)
  | err (code : ErrCode)
deriving DecidableEq, Repr

inductive NoticeClass where
  | gate | platform | weigh | visit | system
deriving DecidableEq, Repr

structure Notice where
  name : String
  fields : List Field
deriving DecidableEq, Repr

/-- The request names of section 12.4. -/
inductive ReqName where
  | status | diag | weight | zero | inputs | inputOverride | barrierReset | gateOpen | admitVehicle | refuse
  | platform | platformMode | platformAccept | platformRetry | platformRelease | platformAbort
  | call | queue | visit | visitList | visitResolve | cancel | requeue | holdVisit
  | vehicleGet | vehiclePut | vehicleDelete | accountGet | accountPut | accountStatus | accountDelete
  | journalRead | journalRelease | reprint | printSuppress | timeSet | linkWatch | noticeEnable
  | settingsRead | settingsWrite | restart
deriving DecidableEq, Repr

/-- An ended frame: with good framing (its name, none when the index lacks it, and its fields), or malformed (R202, R204). -/
inductive RxFrame where
  | good (name : Option ReqName) (fields : List Text)
  | malformed
deriving DecidableEq, Repr

/-- The frame in service: the reply built for it, and whether it is the reply of a RESTART taken (R206, R217). -/
structure Service where
  reply : Reply
  restart : Bool
deriving DecidableEq, Repr

inductive Refused where
  | frame | busy
deriving DecidableEq, Repr

/-- A frame the transmitter is sending (R206). -/
inductive TxFrame where
  | reply (s : Service)
  | refusal (c : Refused)
  | notice (n : Notice)
deriving DecidableEq, Repr

structure ClassRec where
  enabled : Bool
  latched : Bool
deriving DecidableEq, Repr

structure PerClass where
  gate : ClassRec
  platform : ClassRec
  weigh : ClassRec
  visit : ClassRec
  system : ClassRec
deriving DecidableEq, Repr

def PerClass.get (x : PerClass) : NoticeClass → ClassRec
  | .gate => x.gate
  | .platform => x.platform
  | .weigh => x.weigh
  | .visit => x.visit
  | .system => x.system

def PerClass.set (x : PerClass) (c : NoticeClass) (v : ClassRec) : PerClass :=
  match c with
  | .gate => { x with gate := v }
  | .platform => { x with platform := v }
  | .weigh => { x with weigh := v }
  | .visit => { x with visit := v }
  | .system => { x with system := v }

/-- The office link (chapter 12). assembly holds the characters of the frame being received, from its '<' on, and none outside
a frame; gap is the gap timer (R201). -/
structure OfficeLink where
  started : Bool
  rate : Nat
  assembly : List RxByte
  gap : Timer
  inService : Option Service
  waiting : Option RxFrame
  owed : List Refused
  sending : Option TxFrame
  notices : List Notice
  classes : PerClass
  discards : Nat
deriving DecidableEq, Repr

/-! ## Settings (chapter 13) -/

/-- A calibration set (R20): offsets and trims of the n cells, span in 1/1,048,576 g per count, Z_cal in grams, Max and d in
kg. -/
structure Calib where
  n : Nat
  offsets : List Int
  trims : List Nat
  span : Nat
  zCal : Int
  max : Nat
  d : Nat
deriving DecidableEq, Repr

/-- Section 3. Frame timeout in ms, capture timeout in s, band in tenths of a division. -/
structure WeighSet where
  n : Nat
  m : Nat
  band : Nat
  zeroTracking : Bool
  frameTimeout : Nat
  staleToFault : Nat
  faultThreshold : Nat
  clearThreshold : Nat
  captureTimeout : Nat
deriving DecidableEq, Repr

/-- The settings of one input: ACTIVE_LOW or ACTIVE_HIGH, and the debounce time in ms. -/
structure InputSet where
  activeLow : Bool
  debounce : Nat
deriving DecidableEq, Repr

/-- Section 4, times in s. -/
structure YardSet where
  callTimeout : Nat
  gateHold : Nat
  travelLimit : Nat
  repeatHold : Nat
  noShowLimit : Nat
  inputs : PerBarrier (PerLine InputSet)
deriving DecidableEq, Repr

/-- Section 5: the entry ends, the class priority map (eight levels), the default mode. -/
structure PlatSet where
  ends : PerPlatform DeckEnd
  levels : List Nat
  defaultMode : Mode
deriving DecidableEq, Repr

/-- Section 6. -/
structure TicketSet where
  rate : Nat
  header1 : Text
  header2 : Text
  site : Nat
deriving DecidableEq, Repr

/-- Section 7: the offline policy (R162). -/
inductive Policy where
  | hold | acceptZero
deriving DecidableEq, Repr

/-- The contents of one section. -/
inductive SectionVals where
  | cal (d : Deck) (c : Calib)
  | weigh (w : WeighSet)
  | yard (y : YardSet)
  | plat (p : PlatSet)
  | ticket (t : TicketSet)
  | policy (p : Policy)
deriving DecidableEq, Repr

inductive SectionStatus where
  | accepted | defaulted | clamped
deriving DecidableEq, Repr

/-- The transfer of a write that awaits its acknowledgement: the steps 1 to 5 of R214. -/
inductive WriteStep where
  | header | clearAccept | counter | fields | setAccept
deriving DecidableEq, Repr

/-- A write in flight (R213, R214): the new values, the step awaited, and the ticks its transfer has left. -/
structure Write where
  vals : SectionVals
  step : WriteStep
  timer : Nat
deriving DecidableEq, Repr

/-- The statuses of sections 1 to 7. -/
structure Statuses where
  s1 : SectionStatus
  s2 : SectionStatus
  s3 : SectionStatus
  s4 : SectionStatus
  s5 : SectionStatus
  s6 : SectionStatus
  s7 : SectionStatus
deriving DecidableEq, Repr

structure Settings where
  cal : PerDeck Calib
  weigh : WeighSet
  yard : YardSet
  plat : PlatSet
  ticket : TicketSet
  policy : Policy
  status : Statuses
  counter : Nat
  headerBad : Bool
  write : Option Write
  mem : List Host.Cell
deriving DecidableEq, Repr

/-! ## The whole part -/

structure State where
  part : Part
  intakes : PerDeck Intake
  sync : Bool
  chains : PerPlatform Chain
  nextCapture : Nat
  inputs : PerBarrier (PerLine Input)
  drives : PerBarrier Drive
  beacons : PerDeck Bool
  bars : PerBarrier Bar
  recent : PerReader RecentRead
  readerErrors : Nat
  gates : PerGate GateRec
  plat : Platforms
  alloc : Allocator
  tables : Tables
  visits : Visits
  tickets : Tickets
  time : TimeBase
  watch : Watch
  link : OfficeLink
  settings : Settings
  freeCount : Nat
  pending : List Instr
deriving DecidableEq, Repr

/-- No command of the part stops it with a fault (R2, R75, R203, R205: what is wrong is discarded, counted or answered), so
there is no way to build one. -/
inductive Fault where
deriving DecidableEq, Repr

/-- Why a command is refused. `notModelled` is raised by the dispatch alone, for a command that has no meaning yet (safe: the
model stops where the part goes on). No command of this model is refused. -/
inductive Refusal where
  | notModelled (mnemonic : String)
deriving DecidableEq, Repr

/-! ## Built-in defaults (the settings tables of the owning chapters) -/

/-- The built-in calibration set of R20. -/
def Calib.builtIn : Calib :=
  { n := 4, offsets := [0, 0, 0, 0], trims := [65536, 65536, 65536, 65536], span := 1048576, zCal := 0, max := 60000, d := 20 }

/-- Section 3 defaults (sections 1.2, 2.4, 2.5, 3.2, 3.5; R7, R24, R26). -/
def WeighSet.builtIn : WeighSet :=
  { n := 8, m := 16, band := 10, zeroTracking := true, frameTimeout := 100, staleToFault := 10, faultThreshold := 10,
    clearThreshold := 10, captureTimeout := 30 }

/-- The defaults of an input (section 4.1): beams ACTIVE_LOW, loops and limits ACTIVE_HIGH; 50 ms for loops and beams, 20 ms
for limits. -/
def InputSet.builtIn : Line → InputSet
  | .loop => { activeLow := false, debounce := 50 }
  | .beam => { activeLow := true, debounce := 50 }
  | .up => { activeLow := false, debounce := 20 }
  | .down => { activeLow := false, debounce := 20 }

/-- The same value at every line of every barrier, by line. -/
def PerLine.of {α : Type} (f : Line → α) : PerLine α := { loop := f .loop, beam := f .beam, up := f .up, down := f .down }

def PerBarrier.all {α : Type} (v : α) : PerBarrier α := { aN := v, aS := v, bN := v, bS := v, eN := v, eX := v }

/-- Section 4 defaults (sections 4.1, 4.5, 5, 6.1, 7.2). -/
def YardSet.builtIn : YardSet :=
  { callTimeout := 120, gateHold := 30, travelLimit := 6, repeatHold := 10, noShowLimit := 2,
    inputs := PerBarrier.all (PerLine.of InputSet.builtIn) }

/-- Section 5 defaults (sections 6.1, 7.2). -/
def PlatSet.builtIn : PlatSet :=
  { ends := { a := .south, b := .north, ab := .north }, levels := [1, 1, 1, 2, 2, 2, 3, 3], defaultMode := .split }

/-- Section 6 defaults: rate 1 (section 12.1). DESIGN CHOICE (log 17): the manual gives no default for the header lines and
the site number. -/
def TicketSet.builtIn : TicketSet := { rate := 1, header1 := [], header2 := [], site := 0 }

/-! ## Reset -/

/-- A good cell with no history (R16, section 1.8). -/
def Cell.fresh : Cell := { faulted := false, badRun := 0, goodRun := 0, last := 0 }

def Counters.zero : Counters := { badFrames := 0, dropped := 0, gaps := 0, pairSlips := 0, refills := 0, staleEvents := 0 }

/-- An intake after reset (section 1.8) for a deck of n cells. -/
def Intake.reset (n : Nat) : Intake :=
  { link := .absent, timer := none, stale := 0, last := none, entries := [], refill := false,
    cells := List.replicate n Cell.fresh, counts := Counters.zero }

/-- No flag set. -/
def Flags.clear : Flags :=
  { valid := false, stable := false, zeroCentre := false, overload := false, underload := false, aboveMax := false,
    belowMin := false, clamped := false, stale := false, refill := false, uncalibrated := false }

/-- A chain after reset (R36, R44, R53): uncal says whether R20 finds the platform not calibrated. -/
def Chain.reset (z : Int) (uncal : Bool) : Chain :=
  { window := [], stab := [], seq := 0,
    latest := { seq := 0, w := none, a := none, flags := { Flags.clear with stale := true, uncalibrated := uncal } },
    z := z, zeroRange := false, pendingZero := true, capture := none }

/-- A free, unbound platform (R122). -/
def PlatRec.free (e : DeckEnd) : PlatRec :=
  { state := .free, visit := none, entryEnd := e, wrong := false, callTimer := none, outcome := none, beamSeen := false,
    passed := false, holdReason := none, resume := none }

def GateRec.reset : GateRec := { state := .closed, openFor := none, seen := false, pendingTag := none, timer := none }

def RecentRead.reset : RecentRead := { tag := none, hold := .stopped }

def Bar.atRest (s : BarState) : Bar := { state := s, lowerPending := false, lamp := false, cause := none, timer := none }

def Drive.off : Drive := { raise := false, lower := false, green := false }

/-- Account 0 after a COLD reset (R152). -/
def Account.cash : Account :=
  { name := ascii "CASH", active := true, allowance := none, dayUsed := 0, reserved := 0,
    mask := { a := true, b := true, ab := true }, tarePermitted := false }

/-- A printer at the end of STARTING (R187): OFFLINE, its enquiry timer started. -/
def PrinterRec.reset (queue : List Ticket) : PrinterRec :=
  { state := .offline, statusTimer := none, enquiryTimer := some 5000, sending := none, queue := queue, suppressed := false,
    enqSent := 0 }

def PerClass.clear : PerClass :=
  { gate := ⟨false, false⟩, platform := ⟨false, false⟩, weigh := ⟨false, false⟩, visit := ⟨false, false⟩,
    system := ⟨false, false⟩ }

/-- The office link as R210 has it, at a line rate, started or not. -/
def OfficeLink.reset (started : Bool) (rate : Nat) : OfficeLink :=
  { started := started, rate := rate, assembly := [], gap := none, inService := none, waiting := none, owed := [], sending := none, notices := [],
    classes := PerClass.clear, discards := 0 }

def Watch.reset : Watch := { period := none, online := true, timer := none, offlineMs := 0 }

/-- DESIGN CHOICE (log 2): the electrical levels of the inputs at reset: the DOWN limits and the beams high, the loops and the
UP limits low, so that under the default polarities every arm is down, every beam clear and every loop empty. -/
def lineHigh : Line → Bool
  | .loop => false
  | .beam => true
  | .up => false
  | .down => true

/-- An input at the end of STARTING (R61) under the default polarities and lineHigh. -/
def Input.reset (l : Line) : Input :=
  { high := lineHigh l, deb := lineHigh l != (InputSet.builtIn l).activeLow, override := .none, debounce := none }

/-- The live settings when the settings memory lists nothing (R211): every section DEFAULTED. -/
def Settings.defaulted (mem : List Host.Cell) : Settings :=
  { cal := { a := Calib.builtIn, b := Calib.builtIn }, weigh := WeighSet.builtIn, yard := YardSet.builtIn,
    plat := PlatSet.builtIn, ticket := TicketSet.builtIn, policy := .hold,
    status := ⟨.defaulted, .defaulted, .defaulted, .defaulted, .defaulted, .defaulted, .defaulted⟩,
    counter := 0, headerBad := true, write := none, mem := mem }

/-- The part right after reset: at the end of STARTING after a COLD reset, with a settings memory that lists nothing
(log 1, 2, 3). -/
def State.reset : State :=
  { part := { phase := .running, lastReset := .cold, signatureGood := true },
    intakes := { a := Intake.reset 4, b := Intake.reset 4 },
    sync := false,
    chains := { a := Chain.reset 0 true, b := Chain.reset 0 true, ab := Chain.reset 0 true },
    nextCapture := 1,
    inputs := PerBarrier.all (PerLine.of Input.reset),
    drives := PerBarrier.all Drive.off,
    beacons := { a := false, b := false },
    bars := PerBarrier.all (Bar.atRest .down),
    recent := { r1 := RecentRead.reset, r2 := RecentRead.reset, r3 := RecentRead.reset, r4 := RecentRead.reset,
                r5 := RecentRead.reset, r6 := RecentRead.reset, r7 := RecentRead.reset },
    readerErrors := 0,
    gates := { entry := GateRec.reset, exit := GateRec.reset },
    plat := { mode := .split, target := none, accepting := { a := true, b := true },
              recs := { a := PlatRec.free .south, b := PlatRec.free .north, ab := PlatRec.free .north },
              signs := { lastSent := { a := some .blank, b := none }, waiting := [(.b, .blank)],
                         sending := some (.a, .blank) } },
    alloc := { queue := [], flight := { a := none, b := none, ab := none } },
    tables := { vehicles := [], accounts := [(0, Account.cash)] },
    visits := { table := [], nextId := 1 },
    tickets := { journal := [], nextTicket := 1, printers := { a := PrinterRec.reset [], b := PrinterRec.reset [] } },
    time := { msDivider := 0, subMs := 0, day := 0, second := 0, valid := false, lastValid := none },
    watch := Watch.reset,
    link := OfficeLink.reset true 1,
    settings := Settings.defaulted [],
    freeCount := 0,
    pending := [] }

end Sys2Proof.Machine
end

