-- ==== Sys2Proof/Machine/Flags.lean ====
section
/-! DEFINITION. The arithmetic of the weighing chain (chapter 2): rounding, the eight stages, and the flags of a result. -/

namespace Sys2Proof.Machine

/-- A quotient rounded to the nearest integer, an exact half away from zero (R19). The divisor is positive. -/
def roundDiv (n : Int) (d : Nat) : Int :=
  if n < 0 then -(((2 * n.natAbs + d) / (2 * d) : Nat) : Int) else (((2 * n.natAbs + d) / (2 * d) : Nat) : Int)

/-- Stage 1, a corrected count (R21). -/
def correctedCount (r o : Int) (t : Nat) : Int := roundDiv ((r - o) * (t : Int)) 65536

/-- The corrected counts of a frame's cells. -/
def correctedCounts : List Int → List Int → List Nat → List Int
  | r :: rs, o :: os, t :: ts => correctedCount r o t :: correctedCounts rs os ts
  | _, _, _ => []

/-- Stage 2, the deck sum (R22). -/
def deckSum (samples : List Int) (c : Calib) : Int := (correctedCounts samples c.offsets c.trims).foldl (· + ·) 0

/-- Stage 3, the fine weight in grams, before the clamp (R22). -/
def fineWeight (samples : List Int) (c : Calib) : Int := roundDiv (deckSum samples c * (c.span : Int)) 1048576

/-- The clamp's limit in grams (R22). -/
def clampLimit : Int := 999999999

/-- The clamp (R22). -/
def clampWeight (w : Int) : Int := if clampLimit < w then clampLimit else if w < -clampLimit then -clampLimit else w

/-- Values kept at the tail of a window of at most n: the oldest leave first (R24, R26). -/
def pushWindow (n : Nat) (w : List Int) (v : Int) : List Int := (w ++ [v]).drop ((w ++ [v]).length - n)

/-- Stage 4, the filtered weight: the rounded mean of the values present (R24). -/
def filterMean (w : List Int) : Int := roundDiv (w.foldl (· + ·) 0) w.length

def listMax : List Int → Int
  | [] => 0
  | x :: xs => xs.foldl max x

def listMin : List Int → Int
  | [] => 0
  | x :: xs => xs.foldl min x

/-- Stage 5, STABLE (R26): the window holds m values and their spread is at most band × d × 100 grams. -/
def isStable (m band d : Nat) (w : List Int) : Bool :=
  w.length == m && listMax w - listMin w ≤ (band * d * 100 : Nat)

/-- Stage 7, the displayed weight in kg (R28). -/
def displayedWeight (a : Int) (d : Nat) : Int := roundDiv a (1000 * d) * d

/-- What a platform brings to a result: its division, its capacity, whether its links run, whether it is in REFILL, whether
R20 finds it calibrated, and its frame marks. -/
structure ResultContext where
  d : Nat
  max : Nat
  linksRunning : Bool
  inRefill : Bool
  calibrated : Bool
  cellFault : Bool
  badChannel : Bool
deriving DecidableEq, Repr

/-- Stage 8, the flags of a produced result (R29, R30, R32), from the zeroed weight a, the unclamped fine weight and the
stability test's answer. A produced result never carries STALE or REFILL (R31). -/
def resultFlags (c : ResultContext) (unclamped a : Int) (stable : Bool) : Flags :=
  let w := displayedWeight a c.d
  let clamped := clampLimit < unclamped || unclamped < -clampLimit
  let overload := (c.max + 9 * c.d : Nat) < w || clampLimit < unclamped
  let underload := w < -(20 * c.d : Nat) || unclamped < -clampLimit
  let present := !overload && !underload
  { valid := c.linksRunning && !c.cellFault && !c.badChannel && c.calibrated && !c.inRefill && !clamped && present,
    stable := stable,
    zeroCentre := decide (a.natAbs ≤ 250 * c.d),
    overload := overload,
    underload := underload,
    aboveMax := present && decide ((c.max : Int) < w),
    belowMin := present && decide (w < (20 * c.d : Nat)),
    clamped := clamped,
    stale := false,
    refill := false,
    uncalibrated := !c.calibrated }

/-- The next value of a sequence counter (R31): 65,535 is followed by 0. -/
def nextSeq (n : Nat) : Nat := if n < 65535 then n + 1 else 0

/-- Stages 4 to 8 for an unclamped fine weight: the chain with its windows, sequence counter and latest result advanced, and
its pending-zero mark cleared (R24 to R32, R38). -/
def produceResult (n m band : Nat) (c : ResultContext) (unclamped : Int) (ch : Chain) : Chain :=
  let window := pushWindow n ch.window (clampWeight unclamped)
  let f := filterMean window
  let stab := pushWindow m ch.stab f
  let a := f - ch.z
  let flags := resultFlags c unclamped a (isStable m band c.d stab)
  let w := if flags.overload || flags.underload then none else some (displayedWeight a c.d)
  { ch with
    window := window, stab := stab, seq := nextSeq ch.seq,
    latest := { seq := nextSeq ch.seq, w := w, a := some a, flags := flags }, pendingZero := false }

/-- A result that a capture takes (R47): VALID, STABLE, and W present from 20 d to Max. -/
def captureSucceeds (d max : Nat) (r : Result) : Bool := match r.w with
  | some w => r.flags.valid && r.flags.stable && (20 * d : Nat) ≤ w && w ≤ (max : Int)
  | none => false

/-- The reason of a result that does not succeed, by precedence (R48). -/
def captureReason (d max : Nat) (r : Result) : CaptureReason :=
  if !r.flags.valid then .invalid
  else match r.w with
    | some w => if (max : Int) < w then .aboveMax else if w < (20 * d : Nat) then .belowMin else .motion
    | none => .invalid

/-- A chain whose filter is restarted (R25). -/
def Chain.restartFilter (ch : Chain) : Chain := { ch with window := [], stab := [] }

/-- The latest result of a platform whose link left RUNNING (R33). -/
def Flags.toStale (f : Flags) : Flags := { f with valid := false, stale := true }

/-- The latest result of platform AB when REFILL starts (R33). -/
def Flags.toRefill (f : Flags) : Flags := { f with valid := false, refill := true }

/-- One counter is behind another (00_scope.md, Frame counter): (other − this) mod 256 lies from 1 to 127. -/
def behind (this other : Byte) : Bool := 1 ≤ (other - this).toNat && (other - this).toNat ≤ 127

end Sys2Proof.Machine
end

