-- ==== Sys2Proof/Machine/Operands.lean ====
section
/-! DEFINITION. Reading the fields, frames, reports and bursts that reach the part, and writing the frames and texts it sends. -/

namespace Sys2Proof.Machine

/-! ## Fields (R204) -/

/-- The digit a character stands for. -/
def digitVal (c : Byte) : Option Nat :=
  if 0x30 ≤ c.toNat && c.toNat ≤ 0x39 then some (c.toNat - 0x30) else none

/-- The number of a run of digits, most significant first. -/
def digitsVal : Nat → Text → Option Nat
  | acc, [] => some acc
  | acc, c :: cs => match digitVal c with
    | some k => digitsVal (acc * 10 + k) cs
    | none => none

/-- A decimal number (R204): 1 to 10 characters, digits with one optional leading '-'. -/
def parseDec (t : Text) : Option Int :=
  if t.length < 1 || 10 < t.length then none
  else match t with
    | [] => none
    | c :: cs =>
      if c = 0x2D then
        if cs.isEmpty then none else (digitsVal 0 cs).map fun n => -(n : Int)
      else (digitsVal 0 t).map fun n => (n : Int)

/-- A number from lo to hi, both included. -/
def inRange (lo hi : Int) (i : Int) : Bool := lo ≤ i && i ≤ hi

/-- The value a word field names, matched with its letters' case (R204). -/
def parseWord {α : Type} (words : List (String × α)) (t : Text) : Option α :=
  (words.find? fun w => ascii w.1 == t).map (·.2)

def Platform.words : List (String × Platform) := [("A", .a), ("B", .b), ("AB", .ab)]
def Printer.words : List (String × Printer) := [("A", .a), ("B", .b)]
def Gate.words : List (String × Gate) := [("ENTRY", .entry), ("EXIT", .exit)]
def Mode.words : List (String × Mode) := [("SPLIT", .split), ("COMBINED", .combined)]
def Barrier.words : List (String × Barrier) :=
  [("AN", .aN), ("AS", .aS), ("BN", .bN), ("BS", .bS), ("EN", .eN), ("EX", .eX)]
def NoticeClass.words : List (String × NoticeClass) :=
  [("GATE", .gate), ("PLATFORM", .platform), ("WEIGH", .weigh), ("VISIT", .visit), ("SYSTEM", .system)]
def onOffWords : List (String × Bool) := [("ON", true), ("OFF", false)]
def yesNoWords : List (String × Bool) := [("Y", true), ("N", false)]
def Length.words : List (String × Length) := [("STANDARD", .standard), ("LONG", .long)]
def Direction.words : List (String × Direction) := [("INBOUND", .inbound), ("OUTBOUND", .outbound)]
def Override.words : List (String × Override) :=
  [("NONE", .none), ("FORCE_ACTIVE", .forceActive), ("FORCE_INACTIVE", .forceInactive)]

/-- The word of a value in a word list. -/
def wordOf {α : Type} [DecidableEq α] (words : List (String × α)) (v : α) : String :=
  ((words.find? fun w => w.2 == v).map (·.1)).getD ""

def Platform.word (p : Platform) : String := wordOf Platform.words p
def Printer.word (p : Printer) : String := wordOf Printer.words p
def Gate.word (g : Gate) : String := wordOf Gate.words g
def Mode.word (m : Mode) : String := wordOf Mode.words m
def Barrier.word (b : Barrier) : String := wordOf Barrier.words b
def NoticeClass.word (c : NoticeClass) : String := wordOf NoticeClass.words c
def Length.word (l : Length) : String := wordOf Length.words l
def Direction.word (d : Direction) : String := wordOf Direction.words d
def Deck.word : Deck → String
  | .a => "A"
  | .b => "B"
def yesNo (b : Bool) : Field := .word (if b then "Y" else "N")
def yesNoLong (b : Bool) : Field := .word (if b then "YES" else "NO")
def onOff (b : Bool) : Field := .word (if b then "ON" else "OFF")

/-- All barriers in the order of section 4.1, all lines in the order of R60, all inputs in the INPUTS order. -/
def Barrier.all : List Barrier := [.aN, .aS, .bN, .bS, .eN, .eX]
def Line.all : List Line := [.loop, .beam, .up, .down]
def InputId.all : List InputId := Barrier.all.flatMap fun b => Line.all.map fun l => ⟨b, l⟩

def Line.word : Line → String
  | .loop => "LOOP"
  | .beam => "BEAM"
  | .up => "UP"
  | .down => "DOWN"

/-- The name of an input: its barrier's code, a '.', its line (section 4.1). -/
def InputId.text (i : InputId) : Text := ascii (Barrier.word i.bar) ++ 0x2E :: ascii (Line.word i.line)

/-- The input a field names. -/
def parseInput (t : Text) : Option InputId := InputId.all.find? fun i => InputId.text i == t

/-- An output: a drive output of a barrier, or a deck's beacon. -/
inductive OutputId where
  | raise (b : Barrier) | lower (b : Barrier) | green (b : Barrier) | beacon (d : Deck)
deriving DecidableEq, Repr

def OutputId.text : OutputId → Text
  | .raise b => ascii (Barrier.word b) ++ ascii ".RAISE"
  | .lower b => ascii (Barrier.word b) ++ ascii ".LOWER"
  | .green b => ascii (Barrier.word b) ++ ascii ".GREEN"
  | .beacon d => ascii (Deck.word d) ++ ascii ".BEACON"

/-- All outputs in the order of R60. -/
def OutputId.all : List OutputId :=
  (Barrier.all.flatMap fun b => [OutputId.raise b, OutputId.lower b, OutputId.green b]) ++ [.beacon .a, .beacon .b]

def parseOutput (t : Text) : Option OutputId := OutputId.all.find? fun o => o.text == t

/-- A tag (R75, section 8.1): 1 to 16 characters from 0x21 to 0x7E, not '#', ',' or '*'. -/
def tagOk (t : Text) : Bool :=
  1 ≤ t.length && t.length ≤ 16 &&
    t.all fun c => 0x21 ≤ c.toNat && c.toNat ≤ 0x7E && c != 0x23 && c != 0x2C && c != 0x2A

/-- A registration (R87, section 8.1): 1 to 10 characters from 0x21 to 0x7E, not ',' or '*'. -/
def registrationOk (t : Text) : Bool :=
  1 ≤ t.length && t.length ≤ 10 && t.all fun c => 0x21 ≤ c.toNat && c.toNat ≤ 0x7E && c != 0x2C && c != 0x2A

/-- Characters from 0x20 to 0x7E, not ',' or '*', at most so many (account names, section 8.2; header lines, R213). -/
def lineOk (most : Nat) (t : Text) : Bool :=
  t.length ≤ most && t.all fun c => 0x20 ≤ c.toNat && c.toNat ≤ 0x7E && c != 0x2C && c != 0x2A

/-- A text cut at every separator: n separators give n + 1 parts (R204). -/
def splitText (sep : Byte) : Text → List Text
  | [] => [[]]
  | c :: cs =>
    if c = sep then [] :: splitText sep cs
    else match splitText sep cs with
      | [] => [[c]]
      | part :: parts => (c :: part) :: parts

/-- Texts joined by a separator. -/
def joinText (sep : Text) : List Text → Text
  | [] => []
  | [t] => t
  | t :: ts => t ++ sep ++ joinText sep ts

def PlatMask.none : PlatMask := ⟨false, false, false⟩

def PlatMask.has (m : PlatMask) : Platform → Bool
  | .a => m.a
  | .b => m.b
  | .ab => m.ab

def PlatMask.add (m : PlatMask) : Platform → PlatMask
  | .a => { m with a := true }
  | .b => { m with b := true }
  | .ab => { m with ab := true }

/-- Platforms named at most once each, added to a mask. -/
def parseMaskParts : PlatMask → List Text → Option PlatMask
  | m, [] => some m
  | m, t :: ts => match parseWord Platform.words t with
    | some p => if m.has p then none else parseMaskParts (m.add p) ts
    | none => none

/-- A mask field (R143): empty, or one to three of A, B and AB joined by '+', each at most once. -/
def parseMask (t : Text) : Option PlatMask :=
  if t.isEmpty then some PlatMask.none else parseMaskParts PlatMask.none (splitText 0x2B t)

/-! ## Writing frames (R205, section 12.8) -/

/-- A natural number in decimal. -/
def decNat (n : Nat) : Text := (Nat.toDigits 10 n).map fun c => BitVec.ofNat 8 c.toNat

/-- A whole number in decimal, with a '-' when negative. -/
def decInt (i : Int) : Text := if i < 0 then 0x2D :: decNat i.natAbs else decNat i.natAbs

def Field.toText : Field → Text
  | .word w => ascii w
  | .num n => decInt n
  | .text t => t
  | .empty => []

/-- An optional number as a field: empty when absent. -/
def optNum (n : Option Nat) : Field := match n with
  | some k => .num k
  | none => .empty

/-- Names joined by '+', an empty field when there are none (R35, R142, R170).
DEDUCED (log 23). -/
def plusField (names : List String) : Field :=
  if names.isEmpty then .empty else .text (joinText [0x2B] (names.map ascii))

/-- The names of the flags that are set, in the order listed. -/
def setNames (flags : List (Bool × String)) : List String := (flags.filter (·.1)).map (·.2)

def ErrCode.word : ErrCode → String
  | .frame => "FRAME"
  | .unknown => "UNKNOWN"
  | .args => "ARGS"
  | .range => "RANGE"
  | .state => "STATE"
  | .busy => "BUSY"
  | .full => "FULL"
  | .notFound => "NOTFOUND"
  | .inUse => "INUSE"
  | .config => "CONFIG"
  | .invalid => "INVALID"
  | .motion => "MOTION"
  | .starting => "STARTING"

/-- A body: fields separated by ','. -/
def bodyOf (fields : List Field) : Text := joinText [0x2C] (fields.map Field.toText)

def Reply.body : Reply → Text
  | .ok fields => bodyOf (.word "OK" :: fields)
  | .err code => bodyOf [.word "ERR", .word code.word]

def Notice.body (n : Notice) : Text := bodyOf (.word n.name :: n.fields)

/-- A hexadecimal digit in capitals (R205). -/
def hexDigit (n : Nat) : Byte := if n < 10 then BitVec.ofNat 8 (0x30 + n) else BitVec.ofNat 8 (0x37 + n)

/-- The sum of the body's character codes mod 256 (section 12.2). -/
def bodySum (body : Text) : Nat := (body.foldl (fun n c => n + c.toNat) 0) % 256

/-- A whole frame: start character, body, '*', two check digits, CR (section 12.8). -/
def frameText (start : Byte) (body : Text) : Text :=
  start :: body ++ [0x2A, hexDigit (bodySum body / 16), hexDigit (bodySum body % 16), 0x0D]

/-- The characters the transmitter sends for a frame. -/
def TxFrame.text : TxFrame → Text
  | .reply s => frameText 0x3E s.reply.body
  | .refusal .frame => frameText 0x3E (Reply.err .frame).body
  | .refusal .busy => frameText 0x3E (Reply.err .busy).body
  | .notice n => frameText 0x21 n.body

/-! ## Reading office frames (R201, R202, R204) -/

/-- The request names of section 12.4. -/
def ReqName.words : List (String × ReqName) :=
  [("STATUS", .status), ("DIAG", .diag), ("WEIGHT", .weight), ("ZERO", .zero), ("INPUTS", .inputs),
   ("INPUT_OVERRIDE", .inputOverride), ("BARRIER_RESET", .barrierReset), ("GATE_OPEN", .gateOpen), ("ADMIT", .admitVehicle),
   ("REFUSE", .refuse), ("PLATFORM", .platform), ("PLATFORM_MODE", .platformMode), ("PLATFORM_ACCEPT", .platformAccept),
   ("PLATFORM_RETRY", .platformRetry), ("PLATFORM_RELEASE", .platformRelease), ("PLATFORM_ABORT", .platformAbort),
   ("CALL", .call), ("QUEUE", .queue), ("VISIT", .visit), ("VISIT_LIST", .visitList), ("VISIT_RESOLVE", .visitResolve),
   ("CANCEL", .cancel), ("REQUEUE", .requeue), ("HOLD_VISIT", .holdVisit), ("VEHICLE_GET", .vehicleGet),
   ("VEHICLE_PUT", .vehiclePut), ("VEHICLE_DELETE", .vehicleDelete), ("ACCOUNT_GET", .accountGet),
   ("ACCOUNT_PUT", .accountPut), ("ACCOUNT_STATUS", .accountStatus), ("ACCOUNT_DELETE", .accountDelete),
   ("JOURNAL_READ", .journalRead), ("JOURNAL_RELEASE", .journalRelease), ("REPRINT", .reprint),
   ("PRINT_SUPPRESS", .printSuppress), ("TIME_SET", .timeSet), ("LINK_WATCH", .linkWatch),
   ("NOTICE_ENABLE", .noticeEnable), ("SETTINGS_READ", .settingsRead), ("SETTINGS_WRITE", .settingsWrite),
   ("RESTART", .restart)]

/-- The value of a hexadecimal digit, of either case (R202). -/
def hexVal (c : Byte) : Option Nat :=
  if 0x30 ≤ c.toNat && c.toNat ≤ 0x39 then some (c.toNat - 0x30)
  else if 0x41 ≤ c.toNat && c.toNat ≤ 0x46 then some (c.toNat - 0x37)
  else if 0x61 ≤ c.toNat && c.toNat ≤ 0x66 then some (c.toNat - 0x57)
  else none

/-- A body with good framing: 1 to 240 characters from 0x20 to 0x7E, not '*' (R202). -/
def bodyOk (body : Text) : Bool :=
  1 ≤ body.length && body.length ≤ 240 && body.all fun c => 0x20 ≤ c.toNat && c.toNat ≤ 0x7E && c != 0x2A

/-- The request a body holds (R204): its name, when the index has it, and its fields. -/
def requestOf (body : Text) : RxFrame := match splitText 0x2C body with
  | [] => .good none []
  | name :: fields => .good (parseWord ReqName.words name) fields

/-- Received characters from the first '<' on that carries no framing error: what comes before it is outside a frame and is
discarded (R200, R201). -/
def fromStart (chars : List RxByte) : List RxByte := chars.dropWhile fun c => c.code != 0x3C || c.faulty

/-- Received characters up to and including their first CR, which ends a frame (R201). A CR that carries a framing error ends it
too. DESIGN CHOICE (log 42). -/
def throughCr : List RxByte → Option (List RxByte)
  | [] => none
  | c :: cs => if c.code = 0x0D then some [c] else (throughCr cs).map fun frame => c :: frame

/-- A received frame, from its '<' to its CR, judged whole (R201, R202).
DESIGN CHOICE (log 9). -/
def parseFrame (chars : List RxByte) : RxFrame :=
  if chars.any (·.faulty) then .malformed
  else match chars.map (·.code) with
    | [] => .malformed
    | c :: rest =>
      let body := rest.takeWhile fun b => b != 0x2A
      match rest.dropWhile fun b => b != 0x2A with
      | [_, h, l, cr] => match hexVal h, hexVal l with
        | some hv, some lv =>
          if c = 0x3C && cr = 0x0D && bodyOk body && hv * 16 + lv = bodySum body then requestOf body else .malformed
        | _, _ => .malformed
      | _ => .malformed

/-! ## Reading reader reports (R75) -/

/-- The readers by their address digits. -/
def Reader.ofDigit (c : Byte) : Option Reader :=
  if c = 0x31 then some .r1 else if c = 0x32 then some .r2 else if c = 0x33 then some .r3 else if c = 0x34 then some .r4
  else if c = 0x35 then some .r5 else if c = 0x36 then some .r6 else if c = 0x37 then some .r7 else none

/-- A report from its '#' to its CR, judged whole (R75): the reader's address and the tag, or none when malformed.
DESIGN CHOICE (log 9). -/
def parseReport (chars : List RxByte) : Option (Reader × Text) :=
  if chars.any (·.faulty) then none
  else match chars.map (·.code) with
    | start :: a :: comma :: rest =>
      if start = 0x23 && comma = 0x2C && rest.getLast? == some 0x0D && tagOk rest.dropLast then
        (Reader.ofDigit a).map fun r => (r, rest.dropLast)
      else none
    | _ => none

/-! ## Reading digitiser frames (R2, section 1.10) -/

/-- A frame that passed the checks of R2: its counter and, for each channel, whether its status is OK and its sample. -/
structure RawFrame where
  counter : Byte
  channels : List (Bool × Int)
deriving DecidableEq, Repr

/-- A signed number of three bytes, most significant first. -/
def signed24 (hi mid lo : Byte) : Int := (hi ++ mid ++ lo).toInt

/-- The channels of a frame: n times a status byte and a sample; and the bytes that follow. -/
def parseChannels : Nat → List Byte → Option (List (Bool × Int) × List Byte)
  | 0, bytes => some ([], bytes)
  | n + 1, st :: hi :: mid :: lo :: bytes =>
    if st.toNat ≤ 3 then
      (parseChannels n bytes).map fun r => ((st == 0x00, signed24 hi mid lo) :: r.1, r.2)
    else none
  | _ + 1, _ => none

/-- An ended burst judged by R2: none when malformed. -/
def parseBurst (bytes : List RxByte) : Option RawFrame :=
  if bytes.any (·.faulty) then none
  else match bytes.map (·.code) with
    | start :: counter :: n :: rest =>
      if start = 0xB6 && 2 ≤ n.toNat && n.toNat ≤ 8 then match parseChannels n.toNat rest with
        | some (channels, [check]) =>
          if check = (rest.dropLast.foldl (fun x b => x ^^^ b) (counter ^^^ n)) then some ⟨counter, channels⟩ else none
        | _ => none
      else none
    | _ => none

end Sys2Proof.Machine
end

