-- ==== Sys2Proof/Machine/Ops.lean ====
section
/-! DEFINITION. Named operations over the state that the families share. -/

namespace Sys2Proof.Machine

/-! ## Counters, timers, modes -/

/-- A counter that saturates at 65,535 (R17, R75, R203). -/
def satSucc (n : Nat) : Nat := if n < 65535 then n + 1 else 65535

def State.running (s : State) : Bool := s.part.phase == .running

/-- The platforms of a mode (R94). -/
def Mode.platforms : Mode → List Platform
  | .split => [.a, .b]
  | .combined => [.ab]

/-- Whether a platform belongs to the current mode (R94). -/
def State.current (s : State) (p : Platform) : Bool := (Mode.platforms s.plat.mode).contains p

def deckPlatform : Deck → Platform
  | .a => .a
  | .b => .b

/-- The platform of the current mode that uses a deck (R94, R120). -/
def State.userOfDeck (s : State) (d : Deck) : Platform := match s.plat.mode with
  | .split => deckPlatform d
  | .combined => .ab

/-- The decks of a platform. -/
def platformDecks : Platform → List Deck
  | .a => [.a]
  | .b => [.b]
  | .ab => [.a, .b]

def otherDeck : Deck → Deck
  | .a => .b
  | .b => .a

/-! ## State updates by part -/

def State.modIntake (s : State) (d : Deck) (f : Intake → Intake) : State :=
  { s with intakes := s.intakes.set d (f (s.intakes.get d)) }

def State.modCounts (s : State) (d : Deck) (f : Counters → Counters) : State :=
  s.modIntake d fun i => { i with counts := f i.counts }

def State.modChain (s : State) (p : Platform) (f : Chain → Chain) : State :=
  { s with chains := s.chains.set p (f (s.chains.get p)) }

def State.modInput (s : State) (i : InputId) (f : Input → Input) : State :=
  { s with inputs := s.inputs.setInput i (f (s.inputs.input i)) }

def State.modGate (s : State) (g : Gate) (f : GateRec → GateRec) : State :=
  { s with gates := s.gates.set g (f (s.gates.get g)) }

def State.modRec (s : State) (p : Platform) (f : PlatRec → PlatRec) : State :=
  { s with plat := { s.plat with recs := s.plat.recs.set p (f (s.plat.recs.get p)) } }

def State.modPrinter (s : State) (p : Printer) (f : PrinterRec → PrinterRec) : State :=
  { s with tickets := { s.tickets with printers := s.tickets.printers.set p (f (s.tickets.printers.get p)) } }

def State.platRec (s : State) (p : Platform) : PlatRec := s.plat.recs.get p

/-! ## Notices (R207) -/

/-- A notice is raised: discarded, queued or latched by its class, the link mode and the queue's room (R207).
DESIGN CHOICE (log 12). -/
def notify (c : NoticeClass) (name : String) (fields : List Field) (s : State) : State :=
  let r := s.link.classes.get c
  if !r.enabled then s
  else if s.watch.online && s.link.notices.length < 16 then
    { s with link := { s.link with notices := s.link.notices ++ [⟨name, fields⟩] } }
  else { s with link := { s.link with classes := s.link.classes.set c { r with latched := true } } }

/-- The transmitter, when idle, chooses the next frame to send (R206). -/
def pump (s : State) : State := match s.link.sending with
  | some _ => s
  | none => match s.link.inService with
    | some r => { s with link := { s.link with sending := some (.reply r) } }
    | none => match s.link.waiting, s.link.owed with
      | none, c :: cs => { s with link := { s.link with sending := some (.refusal c), owed := cs } }
      | _, _ => match s.link.notices with
        | n :: ns => { s with link := { s.link with sending := some (.notice n), notices := ns } }
        | [] => s

/-! ## Calibration (R20, R37) -/

def State.cal (s : State) (d : Deck) : Calib := s.settings.cal.get d

/-- The status of a section 1 to 7. -/
def Statuses.get (x : Statuses) : Nat → SectionStatus
  | 1 => x.s1
  | 2 => x.s2
  | 3 => x.s3
  | 4 => x.s4
  | 5 => x.s5
  | 6 => x.s6
  | _ => x.s7

def Statuses.set (x : Statuses) (n : Nat) (v : SectionStatus) : Statuses := match n with
  | 1 => { x with s1 := v }
  | 2 => { x with s2 := v }
  | 3 => { x with s3 := v }
  | 4 => { x with s4 := v }
  | 5 => { x with s5 := v }
  | 6 => { x with s6 := v }
  | _ => { x with s7 := v }

def calSection : Deck → Nat
  | .a => 1
  | .b => 2

/-- The number of the section that holds these contents. -/
def SectionVals.number : SectionVals → Nat
  | .cal d _ => calSection d
  | .weigh _ => 3
  | .yard _ => 4
  | .plat _ => 5
  | .ticket _ => 6
  | .policy _ => 7

/-- A deck is calibrated unless its calibration section was DEFAULTED (R20, R211). -/
def State.deckCalibrated (s : State) (d : Deck) : Bool := s.settings.status.get (calSection d) != .defaulted

/-- Check 5 of R114, and the calibration of platform AB (R20): both decks calibrated, equal divisions, (MaxA + MaxB)/d at most
10,000. -/
def State.pairCalibrated (s : State) : Bool :=
  s.deckCalibrated .a && s.deckCalibrated .b && (s.cal .a).d == (s.cal .b).d &&
    (s.cal .a).max + (s.cal .b).max ≤ 10000 * (s.cal .a).d

def State.calibrated (s : State) : Platform → Bool
  | .a => s.deckCalibrated .a
  | .b => s.deckCalibrated .b
  | .ab => s.pairCalibrated

/-- A platform's division in kg (R20). -/
def State.divisionOf (s : State) : Platform → Nat
  | .a => (s.cal .a).d
  | .b => (s.cal .b).d
  | .ab => (s.cal .a).d

/-- A platform's capacity in kg (R20). -/
def State.maxOf (s : State) : Platform → Nat
  | .a => (s.cal .a).max
  | .b => (s.cal .b).max
  | .ab => (s.cal .a).max + (s.cal .b).max

/-- A platform's reference zero in grams (R37). -/
def State.zRef (s : State) : Platform → Int
  | .a => (s.cal .a).zCal
  | .b => (s.cal .b).zCal
  | .ab => (s.cal .a).zCal + (s.cal .b).zCal

/-- A platform's zero limit in grams (R37). -/
def State.zLimit (s : State) (p : Platform) : Nat := s.maxOf p * 20

/-- A zero within the limit (R37). -/
def State.withinLimit (s : State) (p : Platform) (z : Int) : Bool := (z - s.zRef p).natAbs ≤ s.zLimit p

/-- A calibration write of the deck is in flight: the engine is suspended for it (R15). -/
def State.suspended (s : State) (d : Deck) : Bool := match s.settings.write with
  | some w => w.vals.number == calSection d
  | none => false

/-- The engine is suspended for a deck of the platform (R15, R39, R98). -/
def State.platSuspended (s : State) (p : Platform) : Bool := (platformDecks p).any s.suspended

/-- A platform's working zero changes (R38, R40): the mark is set and ZERO_RANGE cleared. -/
def setZero (p : Platform) (z : Int) (s : State) : State :=
  s.modChain p fun c => { c with z := z, zeroRange := false, pendingZero := true }

/-! ## Inputs (R54, R56) -/

def State.inputSet (s : State) (i : InputId) : InputSet := s.settings.yard.inputs.input i

/-- The raw logical level of an input (R54): true is active. -/
def State.rawLevel (s : State) (i : InputId) : Bool := (s.inputs.input i).high != (s.inputSet i).activeLow

/-- The effective level of an input (R56). -/
def Input.effective (x : Input) : Bool := match x.override with
  | .none => x.deb
  | .forceActive => true
  | .forceInactive => false

def State.effective (s : State) (b : Barrier) (l : Line) : Bool := Input.effective (s.inputs.input ⟨b, l⟩)

/-- The barrier's beam is broken (section 4.1). -/
def State.beamBroken (s : State) (b : Barrier) : Bool := s.effective b .beam

/-! ## Sorted tables -/

/-- The record a sorted table lists under a key. -/
def tabGet {α : Type} : List (Nat × α) → Nat → Option α
  | [], _ => none
  | (k, v) :: rest, n => if k = n then some v else tabGet rest n

/-- A sorted table with a record put under a key. -/
def tabPut {α : Type} : List (Nat × α) → Nat → α → List (Nat × α)
  | [], n, x => [(n, x)]
  | (k, v) :: rest, n, x =>
    if n < k then (n, x) :: (k, v) :: rest
    else if n = k then (n, x) :: rest
    else (k, v) :: tabPut rest n x

/-- A sorted table without a key. -/
def tabDrop {α : Type} (t : List (Nat × α)) (n : Nat) : List (Nat × α) := t.filter fun e => e.1 != n

/-- The lowest key from n upward that a sorted table does not list. -/
def lowestFree {α : Type} : Nat → List (Nat × α) → Nat
  | n, [] => n
  | n, (k, _) :: rest => if k = n then lowestFree (n + 1) rest else n

/-! ## The settings memory: canonical cells (section 13.6) -/

/-- What an address that no cell lists reads as. DESIGN CHOICE (log 3), unsafe. -/
def memDefault : Byte := 0

/-- A byte of the settings memory. -/
def memRead : List Host.Cell → Nat → Byte
  | [], _ => memDefault
  | (k, v) :: rest, a => if k = a then v else memRead rest a

/-- The settings memory with one byte written, in canonical form. -/
def memWrite : List Host.Cell → Nat → Byte → List Host.Cell
  | [], a, v => if v = memDefault then [] else [(a, v)]
  | (k, w) :: rest, a, v =>
    if a < k then (if v = memDefault then (k, w) :: rest else (a, v) :: (k, w) :: rest)
    else if a = k then (if v = memDefault then rest else (a, v) :: rest)
    else (k, w) :: memWrite rest a v

/-- The settings memory with bytes written from an address upward. -/
def memWriteAll : List Host.Cell → Nat → List Byte → List Host.Cell
  | m, _, [] => m
  | m, a, v :: vs => memWriteAll (memWrite m a v) (a + 1) vs

/-- The bytes from an address upward. -/
def memReadAll (m : List Host.Cell) : Nat → Nat → List Byte
  | _, 0 => []
  | a, n + 1 => memRead m a :: memReadAll m (a + 1) n

/-- The canonical form: addresses strictly rising from lo on, and no cell equal to what an unlisted address reads as. -/
def memWfFrom : Nat → List Host.Cell → Bool
  | _, [] => true
  | lo, (k, v) :: rest => lo ≤ k && v != memDefault && memWfFrom (k + 1) rest

/-- The canonical form of the settings memory. -/
def memWf (m : List Host.Cell) : Bool := memWfFrom 0 m

/-! ## Visits -/

def State.visitById (s : State) (id : Nat) : Option Visit := s.visits.table.find? fun v => v.id == id

def State.visitByTag (s : State) (tag : Text) : Option Visit := s.visits.table.find? fun v => v.tag == tag

/-- The open visit with the id takes f's changes. -/
def modVisit (id : Nat) (f : Visit → Visit) (s : State) : State :=
  { s with visits := { s.visits with table := s.visits.table.map fun v => if v.id = id then f v else v } }

/-- The open visits without a journal entry. -/
def State.unjournalled (s : State) : Nat := (s.visits.table.filter fun v => !v.journalled).length

/-- The journal's free places (R174). -/
def State.journalFree (s : State) : Nat := 256 - s.tickets.journal.length

/-! ## Vehicles and accounts -/

/-- The slot and record of a tag (R136). -/
def State.vehicleByTag (s : State) (tag : Text) : Option (Nat × Vehicle) := s.tables.vehicles.find? fun e => e.2.tag == tag

def State.account (s : State) (n : Nat) : Option Account := tabGet s.tables.accounts n

/-- The account record with the number, when the table holds it, takes f's changes. -/
def modAccount (n : Nat) (f : Account → Account) (s : State) : State := match s.account n with
  | some a => { s with tables := { s.tables with accounts := tabPut s.tables.accounts n (f a) } }
  | none => s

/-- A stored tare is current (R150). -/
def State.tareCurrent (s : State) (v : Vehicle) : Bool := match v.tare with
  | some t => !t.unset && s.time.valid && t.day ≤ s.time.day && s.time.day - t.day ≤ v.validity
  | none => false

/-! ## Fields of replies and notices -/

def platField (p : Platform) : Field := .word (Platform.word p)
def barField (b : Barrier) : Field := .word (Barrier.word b)

/-- Whole seconds left on a timer, rounded down: empty when it is stopped. DEDUCED (log 13). -/
def secondsLeft (t : Timer) : Field := match t with
  | some ms => .num (ms / 1000 : Nat)
  | none => .empty

end Sys2Proof.Machine
end

