-- ==== Sys2Proof/Machine/Barriers.lean ====
section
/-! DEFINITION. The barrier controllers (section 4.5), the call signs (R118, R119) and the beacons (R120). -/

namespace Sys2Proof.Machine

/-! ## Barrier controllers -/

/-- The outputs that follow a barrier's state and lamp command (R63, R70). -/
def driveOf (r : Bar) : Drive :=
  { raise := r.state == .raising, lower := r.state == .lowering, green := r.lamp && r.state == .up }

/-- A barrier takes a new record, and its outputs follow in the same event (R61, R63). -/
def setBar (b : Barrier) (r : Bar) (s : State) : State :=
  { s with bars := s.bars.set b r, drives := s.drives.set b (driveOf r) }

def State.bar (s : State) (b : Barrier) : Bar := s.bars.get b

/-- The travel limit in ms (R62). -/
def State.travelMs (s : State) : Nat := s.settings.yard.travelLimit * 1000

/-- A barrier entering LOWERING: travel timer started, lower-pending and lamp command clear (R66, R70).
DEDUCED (log 26). -/
def Bar.toLowering (r : Bar) (ms : Nat) : Bar :=
  { r with state := .lowering, lowerPending := false, lamp := false, timer := some ms }

/-- A raise request (R65). The entry into RAISING is handed to the user, who takes no action on it (R83, R107). -/
def raiseReq (b : Barrier) (s : State) : State :=
  let r := s.bar b
  match r.state with
  | .down => setBar b { r with state := .raising, lowerPending := false, timer := some s.travelMs } s
  | .lowering => setBar b { r with state := .raising, lowerPending := false, timer := some s.travelMs } s
  | .raising => setBar b { r with lowerPending := false } s
  | .up => setBar b { r with lowerPending := false } s
  | .fault => s

/-- A lower request (R66). The entry into LOWERING is handed to the user, who takes no action on it (R83, R107): requests to
lower go to barriers whose user wants them down.
DEDUCED (log 27). -/
def lowerReq (b : Barrier) (s : State) : State :=
  let r := s.bar b
  match r.state with
  | .raising => if s.beamBroken b then setBar b { r with lowerPending := true } s else setBar b (r.toLowering s.travelMs) s
  | .up => if s.beamBroken b then setBar b { r with lowerPending := true } s else setBar b (r.toLowering s.travelMs) s
  | .down => s
  | .lowering => s
  | .fault => s

/-- A lamp-on command (R70): it has its effect in RAISING and UP. -/
def lampOn (b : Barrier) (s : State) : State :=
  let r := s.bar b
  match r.state with
  | .raising => setBar b { r with lamp := true } s
  | .up => setBar b { r with lamp := true } s
  | .down => s
  | .lowering => s
  | .fault => s

/-- A lamp-off command (R70). -/
def lampOff (b : Barrier) (s : State) : State := setBar b { s.bar b with lamp := false } s

def FaultCause.word : FaultCause → String
  | .travelRaise => "TRAVEL_RAISE"
  | .travelLower => "TRAVEL_LOWER"
  | .limits => "LIMITS"

def BarState.word : BarState → String
  | .down => "DOWN"
  | .raising => "RAISING"
  | .up => "UP"
  | .lowering => "LOWERING"
  | .fault => "FAULT"

/-- A barrier in FAULT with a cause (R69). -/
def Bar.faulted (c : FaultCause) : Bar :=
  { state := .fault, lowerPending := false, lamp := false, cause := some c, timer := none }

/-- A barrier enters FAULT (R69), less the hand-over to its user. -/
def barFault (b : Barrier) (c : FaultCause) (s : State) : State :=
  notify .system "BARRIER_FAULT" [barField b, .word (FaultCause.word c)] (setBar b (Bar.faulted c) s)

/-- The class of a barrier's REVERSED notice (R68). -/
def reversedClass : Barrier → NoticeClass
  | .eN => .gate
  | .eX => .gate
  | .aN => .platform
  | .aS => .platform
  | .bN => .platform
  | .bS => .platform

/-- The limit a barrier in DOWN or UP has lost (R69). -/
def limitLost (b : Barrier) (limit : String) (s : State) : State :=
  notify .system "LIMIT_LOST" [barField b, .word limit] s

/-- What a barrier controller does with an event: the state after it, and the barrier states it entered, in order, which are
handed to the barrier's user (R64). -/
abbrev BarStep := State × List BarState

/-- The UP limit changes (R67, R69). -/
def barUpLimit (b : Barrier) (active : Bool) (s : State) : BarStep :=
  let r := s.bar b
  if r.state == .fault then (s, [])
  else if active && s.effective b .down then (barFault b .limits s, [.fault])
  else match r.state, active with
    | .raising, true =>
      if r.lowerPending && !s.beamBroken b then (setBar b (r.toLowering s.travelMs) s, [.up, .lowering])
      else (setBar b { r with state := .up, timer := none } s, [.up])
    | .down, true => (limitLost b "DOWN" s, [])
    | .up, false => (limitLost b "UP" s, [])
    | _, _ => (s, [])

/-- The DOWN limit changes (R67, R69). -/
def barDownLimit (b : Barrier) (active : Bool) (s : State) : BarStep :=
  let r := s.bar b
  if r.state == .fault then (s, [])
  else if active && s.effective b .up then (barFault b .limits s, [.fault])
  else match r.state, active with
    | .lowering, true => (setBar b { r with state := .down, timer := none } s, [.down])
    | .up, true => (limitLost b "UP" s, [])
    | .down, false => (limitLost b "DOWN" s, [])
    | _, _ => (s, [])

/-- The arm beam changes (R68). -/
def barBeam (b : Barrier) (broken : Bool) (s : State) : BarStep :=
  let r := s.bar b
  match r.state, broken with
  | .lowering, true =>
    (notify (reversedClass b) "REVERSED" [barField b]
      (setBar b { r with state := .raising, lowerPending := true, lamp := false, timer := some s.travelMs } s), [.raising])
  | .up, false => if r.lowerPending then (setBar b (r.toLowering s.travelMs) s, [.lowering]) else (s, [])
  | _, _ => (s, [])

/-- The travel timer expires (R69): taken in RAISING and LOWERING. -/
def barTravelExpiry (b : Barrier) (s : State) : BarStep :=
  match (s.bar b).state with
  | .raising => (barFault b .travelRaise s, [.fault])
  | .lowering => (barFault b .travelLower s, [.fault])
  | .down => (s, [])
  | .up => (s, [])
  | .fault => (s, [])

/-- The state a barrier takes from its limits and beam, at BARRIER_RESET (R71) and at start-up (R72); none when both limits
are active. -/
def barFromInputs (b : Barrier) (s : State) : Option Bar :=
  match s.effective b .up, s.effective b .down with
  | true, true => none
  | false, true => some (Bar.atRest .down)
  | true, false => some (Bar.atRest .up)
  | false, false =>
    if s.beamBroken b then some { Bar.atRest .up with lowerPending := true }
    else some ((Bar.atRest .up).toLowering s.travelMs)

/-! ## Signs (R118, R119) -/

/-- The registration a sign shows for a platform: its bound visit's. -/
def State.boundRegistration (s : State) (r : PlatRec) : Text := match r.visit with
  | some id => match s.visitById id with
    | some v => v.registration
    | none => []
  | none => []

/-- Whether a platform is ACCEPTING (R97). -/
def State.acceptingOf (s : State) : Platform → Bool
  | .a => s.plat.accepting.a
  | .b => s.plat.accepting.b
  | .ab => s.plat.accepting.a && s.plat.accepting.b

/-- The message a platform's state sets (R119). -/
def platSign (s : State) (p : Platform) : SignMsg :=
  let r := s.platRec p
  let reg := s.boundRegistration r
  match r.state with
  | .free => if s.acceptingOf p then .blank else .closed
  | .calling => if r.wrong then .wrongVehicle reg r.entryEnd else .call reg r.entryEnd
  | .entering => .call reg r.entryEnd
  | .positioning => .call reg r.entryEnd
  | .weighing => .wait reg
  | .awaiting => .wait reg
  | .exiting => .driveOn reg
  | .hold => .seeOffice reg
  | .switching => .blank

/-- The message of a sign (R119): sign B shows CLOSED throughout COMBINED mode. -/
def signMessage (s : State) (sign : Deck) : SignMsg := match s.plat.mode, sign with
  | .split, d => platSign s (deckPlatform d)
  | .combined, .a => platSign s .ab
  | .combined, .b => .closed

/-- The message last set for a sign: the one that waits, or else the one last sent. -/
def SignLine.lastSet (l : SignLine) (sign : Deck) : Option SignMsg :=
  match l.waiting.find? fun w => w.1 == sign with
  | some w => some w.2
  | none => l.lastSent.get sign

/-- A sign's new message is sent at once on an idle line, and waits otherwise, replacing one that waits for that sign (R118). -/
def SignLine.pass (l : SignLine) (sign : Deck) (m : SignMsg) : SignLine := match l.sending with
  | none => { l with lastSent := l.lastSent.set sign (some m), sending := some (sign, m) }
  | some _ => { l with waiting := (l.waiting.filter fun w => w.1 != sign) ++ [(sign, m)] }

/-- A sign's message is judged again, and passed on when it differs from the one last set (R119).
DEDUCED (log 22). -/
def judgeSign (sign : Deck) (s : State) : State :=
  let m := signMessage s sign
  if s.plat.signs.lastSet sign = some m then s
  else { s with plat := { s.plat with signs := s.plat.signs.pass sign m } }

/-- Both signs' messages are judged again: where both change in one event, sign A's goes first.
DESIGN CHOICE (log 37). -/
def judgeSigns (s : State) : State := judgeSign .b (judgeSign .a s)

/-- The line finishes a message and sends the one that has waited longest (R118). -/
def SignLine.finish (l : SignLine) : SignLine := match l.waiting with
  | [] => { l with sending := none }
  | w :: ws => { l with waiting := ws, sending := some w, lastSent := l.lastSent.set w.1 (some w.2) }

/-- The characters of a sign message (section 6.11). -/
def SignMsg.text (sign : Deck) (m : SignMsg) : Text :=
  let endText : DeckEnd → Text := fun e => match e with
    | .north => ascii "N"
    | .south => ascii "S"
  let line : String → Text → Text → Text := fun w reg e =>
    ascii "$" ++ ascii (Deck.word sign) ++ ascii "," ++ ascii w ++ ascii "," ++ reg ++ ascii "," ++ e ++ [0x0D]
  match m with
  | .blank => line "BLANK" [] []
  | .closed => line "CLOSED" [] []
  | .call reg e => line "CALL" reg (endText e)
  | .wrongVehicle reg e => line "WRONG" reg (endText e)
  | .wait reg => line "WAIT" reg []
  | .driveOn reg => line "DRIVE" reg []
  | .seeOffice reg => line "OFFICE" reg []

/-! ## Platforms and their barriers (R94, R96, R98) -/

/-- The entry barrier of a platform entered at an end (R94). -/
def entryBarrierOf : Platform → DeckEnd → Barrier
  | .a, .north => .aN
  | .a, .south => .aS
  | .b, .north => .bN
  | .b, .south => .bS
  | .ab, .north => .aN
  | .ab, .south => .bS

/-- The exit barrier of a platform entered at an end (R94). -/
def exitBarrierOf : Platform → DeckEnd → Barrier
  | .a, .north => .aS
  | .a, .south => .aN
  | .b, .north => .bS
  | .b, .south => .bN
  | .ab, .north => .bS
  | .ab, .south => .aN

/-- The entry reader of a platform entered at an end (R94). -/
def entryReaderOf : Platform → DeckEnd → Reader
  | .a, .north => .r4
  | .a, .south => .r5
  | .b, .north => .r6
  | .b, .south => .r7
  | .ab, .north => .r4
  | .ab, .south => .r7

/-- The inner barriers of a platform (R94). -/
def innerBarriersOf : Platform → List Barrier
  | .a => []
  | .b => []
  | .ab => [.aS, .bN]

def State.entryBar (s : State) (p : Platform) : Barrier := entryBarrierOf p (s.platRec p).entryEnd
def State.exitBar (s : State) (p : Platform) : Barrier := exitBarrierOf p (s.platRec p).entryEnd

/-- Every barrier of a platform's row (R94). -/
def State.platBarriers (s : State) (p : Platform) : List Barrier := s.entryBar p :: s.exitBar p :: innerBarriersOf p

/-- One of the platform's barriers is in FAULT. -/
def State.platFaulted (s : State) (p : Platform) : Bool := (s.platBarriers p).any fun b => (s.bar b).state == .fault

/-- A platform is blocked (R98). -/
def State.blocked (s : State) (p : Platform) : Bool := (s.platRec p).state == .free && s.platFaulted p

/-- A platform's barriers are at rest (R96). -/
def State.atRest (s : State) (p : Platform) : Bool :=
  (s.bar (s.entryBar p)).state == .down && (s.bar (s.exitBar p)).state == .down &&
    (innerBarriersOf p).all fun b => (s.bar b).state == .up

/-- A platform is grantable (R98). -/
def State.grantable (s : State) (p : Platform) : Bool :=
  s.running && s.current p && (s.platRec p).state == .free && !s.platFaulted p && s.acceptingOf p && s.atRest p &&
    !s.platSuspended p

/-- The user of a deck-end barrier in the current mode (R94); none for the gate barriers. -/
def State.platUser (s : State) (b : Barrier) : Option Platform := match b, s.plat.mode with
  | .aN, .split => some .a
  | .aS, .split => some .a
  | .bN, .split => some .b
  | .bS, .split => some .b
  | .aN, .combined => some .ab
  | .aS, .combined => some .ab
  | .bN, .combined => some .ab
  | .bS, .combined => some .ab
  | .eN, _ => none
  | .eX, _ => none

/-- A deck's beacon is lit while the platform of the current mode that uses it is in HOLD or blocked (R120). -/
def beaconOn (s : State) (d : Deck) : Bool :=
  let p := s.userOfDeck d
  (s.platRec p).state == .hold || s.blocked p

/-- The beacons take the platforms' states (R120). -/
def refreshBeacons (s : State) : State := { s with beacons := { a := beaconOn s .a, b := beaconOn s .b } }

/-- A platform's record changes, and the signs and beacons follow in the same event (R119, R120). -/
def putRec (p : Platform) (r : PlatRec) (s : State) : State :=
  refreshBeacons (judgeSigns (s.modRec p fun _ => r))

def PlatState.word : PlatState → String
  | .free => "FREE"
  | .calling => "CALLING"
  | .entering => "ENTERING"
  | .positioning => "POSITIONING"
  | .weighing => "WEIGHING"
  | .awaiting => "AWAITING"
  | .exiting => "EXITING"
  | .hold => "HOLD"
  | .switching => "SWITCHING"

def ExitOutcome.word : ExitOutcome → String
  | .nextTipping => "NEXT_TIPPING"
  | .nextCleared => "NEXT_CLEARED"
  | .nextQueued => "NEXT_QUEUED"

def HoldReason.word : HoldReason → String
  | .invalid => "INVALID"
  | .aboveMax => "ABOVE_MAX"
  | .belowMin => "BELOW_MIN"
  | .motion => "MOTION"
  | .noResult => "NO_RESULT"
  | .barrier => "BARRIER"
  | .reset => "RESET"
  | .host => "HOST"

def ResumePoint.word : ResumePoint → String
  | .none => "NONE"
  | .positioning => "POSITIONING"
  | .awaiting => "AWAITING"
  | .exit => "EXIT"

def DeckEnd.word : DeckEnd → String
  | .north => "N"
  | .south => "S"

end Sys2Proof.Machine
end

