-- ==== Sys2Proof/Machine/Allocation.lean ====
section
/-! DEFINITION. The call queue and the allocator (chapter 7). -/

namespace Sys2Proof.Machine

/-! ## Joins and removals (R124, R125) -/

/-- A visit joins the call queue at the tail (R124). -/
def joinQueue (id : Nat) (s : State) : State :=
  { s with alloc := { s.alloc with queue := s.alloc.queue ++ [{ visit := id, mark := none }] } }

/-- A visit's entry leaves the call queue (R125). -/
def leaveQueue (id : Nat) (s : State) : State :=
  { s with alloc := { s.alloc with queue := s.alloc.queue.filter fun e => e.visit != id } }

/-- The open visit enters QUEUED and joins the queue's tail (R123, R124). -/
def enterQueued (id : Nat) (s : State) : State := joinQueue id (modVisit id (fun v => { v with state := .queued }) s)

/-! ## Levels and eligibility (R126, R127) -/

/-- The base level of a class in the class priority map. -/
def State.baseLevel (s : State) (cls : Nat) : Nat := s.settings.plat.levels.getD cls 0

/-- The level of a visit (R126). -/
def State.level (s : State) (v : Visit) : Nat :=
  let base := s.baseLevel v.cls
  match v.leg with
  | .first => base
  | .second => if base = 0 then 0 else min 3 (base + 1)

/-- A length allows a platform (R127). -/
def lengthAllows : Length → Platform → Bool
  | .standard, _ => true
  | .long, .ab => true
  | .long, .a => false
  | .long, .b => false

/-- A visit is eligible for a platform (R127). -/
def State.eligible (s : State) (v : Visit) (p : Platform) : Bool :=
  v.state == .queued && v.entered && 0 < s.level v && lengthAllows v.length p &&
    match s.account v.account with
    | some a => a.mask.has p
    | none => false

/-! ## The grant rule (R129) -/

/-- The better of a choice so far and the next entry: the higher level, and the earlier entry among equals. -/
def betterChoice (s : State) (p : Platform) (best : Option (Nat × Nat)) (e : QueueEntry) : Option (Nat × Nat) :=
  match e.mark with
  | some _ => best
  | none => match s.visitById e.visit with
    | none => best
    | some v =>
      if s.eligible v p then match best with
        | some (id, l) => if l < s.level v then some (v.id, s.level v) else some (id, l)
        | none => some (v.id, s.level v)
      else best

/-- The visit the grant rule chooses for a platform (R129): among the unmarked entries with an eligible visit, the highest
level, and the one nearest the head among equals. -/
def State.chooseFor (s : State) (p : Platform) : Option Nat :=
  (s.alloc.queue.foldl (betterChoice s p) none).map (·.1)

/-- An entry's grant mark is set to a platform. -/
def markEntry (id : Nat) (p : Platform) (q : List QueueEntry) : List QueueEntry :=
  q.map fun e => if e.visit = id then { e with mark := some p } else e

/-- The grant marks that name a platform are cleared (R129). -/
def unmark (p : Platform) (q : List QueueEntry) : List QueueEntry :=
  q.map fun e => if e.mark = some p then { e with mark := none } else e

/-- The grant rule for one platform (R129): a grantable platform with no grant in flight gets a grant of its best visit. -/
def grantFor (p : Platform) (s : State) : State :=
  if s.grantable p && (s.alloc.flight.get p).isNone then match s.chooseFor p with
    | some id =>
      { s with alloc := { queue := markEntry id p s.alloc.queue, flight := s.alloc.flight.set p (some id) } }
    | none => s
  else s

/-- The grant rule (R129): A then B in SPLIT mode, AB alone in COMBINED mode. -/
def grantRule (s : State) : State := (Mode.platforms s.plat.mode).foldl (fun s p => grantFor p s) s

/-! ## When the rule is applied (R128) -/

/-- A platform of the current mode became grantable in an event (R98). -/
def becameGrantable (before after : State) : Bool :=
  (Mode.platforms after.plat.mode).any fun p => after.grantable p && !before.grantable p

/-- A visit joined the call queue in an event (R124). -/
def joinedQueue (before after : State) : Bool :=
  after.alloc.queue.any fun e => !(before.alloc.queue.any fun f => f.visit == e.visit)

/-- A queued visit gained ENTERED_SITE in an event: its record is new, and one under its id was without the flag. -/
def gainedEntered (before after : State) : Bool :=
  after.visits.table.any fun v => v.state == .queued && v.entered && !before.visits.table.contains v &&
    (before.visits.table.any fun u => u.id == v.id && !u.entered)

/-- The allocator at the end of an event (R128): the rule is applied once the event's other effects have been made. The events
of R128 that this comparison does not see (a section 5 write, an ACCOUNT_PUT, a refusal) apply the rule themselves. The event that ends STARTING is among them: it
clears the marks of the entries (R135) and then makes the first grants. DEDUCED (log 50). -/
def settleAllocator (before after : State) : State :=
  if becameGrantable before after || joinedQueue before after || gainedEntered before after then grantRule after else after

end Sys2Proof.Machine
end

