-- ==== Sys2Proof/Machine/Tickets.lean ====
section
/-! DEFINITION. The ticket unit and the table unit's bookkeeping (chapters 8 and 10), as far as visits use them. -/

namespace Sys2Proof.Machine

/-! ## Table unit (R147, R148, R149, R151) -/

/-- The most an account's day_used holds (section 8.2). -/
def dayUsedTop : Nat := 99999999

/-- An admission reserves the visit's estimate; account 0 is passed over (R147). -/
def reserve (account estimate : Nat) (s : State) : State :=
  if account = 0 then s else modAccount account (fun a => { a with reserved := a.reserved + estimate }) s

/-- A settlement (R148): the estimate leaves reserved, and the net, when there is one, joins day_used. -/
def settle (account estimate net : Nat) (s : State) : State :=
  modAccount account
    (fun a => { a with
      reserved := if account = 0 then a.reserved else a.reserved - estimate,
      dayUsed := min dayUsedTop (a.dayUsed + net) }) s

/-- A day rollover (R149). -/
def rolloverAccounts (s : State) : State :=
  { s with tables := { s.tables with accounts := s.tables.accounts.map fun e => (e.1, { e.2 with dayUsed := 0 }) } }

/-- The stored tare a weighing record gives (section 8.5). -/
def tareOf (w : WeighRec) : StoredTare :=
  { weight := w.weight, number := w.number, platform := w.platform, day := w.day, unset := w.unset }

/-- Whether a completion refreshes the visit's vehicle record (R151), and the slot and record it refreshes. -/
def State.refreshes (s : State) (v : Visit) : Option (Nat × Vehicle × WeighRec) :=
  match v.direction, v.pass, v.vehicle, v.second with
  | .inbound, .two, some slot, some w => match tabGet s.tables.vehicles slot with
    | some r => if r.refreshTare then some (slot, r, w) else none
    | none => none
  | _, _, _, _ => none

/-- The tare refresh of a completion (R151). -/
def refreshTare (id : Nat) (s : State) : State := match s.visitById id with
  | none => s
  | some v => match s.refreshes v with
    | none => s
    | some (slot, r, w) =>
      modVisit id (fun v => { v with tareRefreshed := true })
        { s with tables := { s.tables with
            vehicles := tabPut s.tables.vehicles slot { r with tare := some (tareOf w) } } }

/-! ## Ticket numbers and the journal (R173 to R176) -/

/-- The number that follows a ticket or capture number (R45, R173). -/
def nextNumber (n : Nat) : Nat := if n < 999999 then n + 1 else 1

/-- The journal entry built from a visit (R175), with its ticket number. -/
def buildEntry (s : State) (v : Visit) (kind : EntryKind) (ticket : Nat) : JournalEntry :=
  { ticket := ticket, kind := kind, visit := v.id, tag := v.tag, registration := v.registration, account := v.account,
    direction := v.direction, pass := v.pass, first := v.first, second := v.second, tare := v.tare,
    net := match kind with
      | .transaction => v.net
      | .void => none,
    zeroNet := v.zeroNet, tareRefreshed := v.tareRefreshed, unset := !s.time.valid, calCounter := s.settings.counter,
    day := s.time.day, secondOfDay := s.time.second }

/-- A visit takes the next ticket number (R173). -/
def takeTicket (id : Nat) (s : State) : State :=
  modVisit id (fun v => { v with ticket := some s.tickets.nextTicket })
    { s with tickets := { s.tickets with nextTicket := nextNumber s.tickets.nextTicket } }

/-- The open visits without a journal entry, one visit left out. -/
def State.unjournalledBut (s : State) (id : Nat) : Nat :=
  (s.visits.table.filter fun v => !v.journalled && v.id != id).length

/-- An entry of the visit joins the journal (R174), with JOURNAL_LOW when it brings the free places down to 16 (R176): the visit
whose entry it is counts as journalled.
DEDUCED (log 41). -/
def appendEntry (id : Nat) (kind : EntryKind) (s : State) : State := match s.visitById id with
  | none => s
  | some v =>
    let e := buildEntry s v kind (v.ticket.getD 0)
    let t := { s with tickets := { s.tickets with journal := s.tickets.journal ++ [e] } }
    if t.tickets.journal.length = 240 then
      notify .system "JOURNAL_LOW" [.num t.journalFree, .num (t.unjournalledBut id)] t
    else t

/-! ## Ticket text (R186, section 10.9) -/

/-- Words joined by single spaces. -/
def spaced (ws : List Text) : Text := joinText [0x20] ws

/-- Two digits. -/
def twoDigits (n : Nat) : Text := [hexDigit (n / 10 % 10), hexDigit (n % 10)]

def timeOfDay (n : Nat) : Text :=
  twoDigits (n / 3600) ++ [0x3A] ++ twoDigits (n / 60 % 60) ++ [0x3A] ++ twoDigits (n % 60)

/-- The line of a capture: its number, its platform, and (T) when TIME_UNSET. -/
def captureLine (number : Nat) (p : Platform) (unset : Bool) : Text :=
  spaced ([ascii "CAPTURE", decNat number, ascii "PLATFORM", ascii (Platform.word p)] ++ if unset then [ascii "(T)"] else [])

/-- The two lines of a weighing. -/
def weighLines (label : String) (w : Option WeighRec) : List Text := match w with
  | none => []
  | some r => [spaced [ascii label, decInt r.weight, ascii "KG"], captureLine r.number r.platform r.unset]

/-- The two lines of a stored tare. -/
def tareLines (t : Option StoredTare) : List Text := match t with
  | none => []
  | some r =>
    [spaced [ascii "TARE STORED", decInt r.weight, ascii "KG", ascii "DAY", decNat r.day],
     captureLine r.number r.platform r.unset]

/-- The labels of the first and second weighing (R186). -/
def weighLabels : Direction → String × String
  | .inbound => ("GROSS", "TARE")
  | .outbound => ("TARE", "GROSS")

/-- The lines of a ticket (section 10.9); reprinted says that REPRINT was set when the transmission began. -/
def ticketLines (set : TicketSet) (t : Ticket) : List Text :=
  let e := t.content
  [set.header1, set.header2, spaced [ascii "SITE", decNat set.site], spaced [ascii "TICKET", decNat e.ticket]] ++
  (if t.copy then [ascii "COPY"] else []) ++
  (if t.reprint then [ascii "REPRINT"] else []) ++
  (if e.kind = .void then [ascii "VOID"] else []) ++
  [spaced [ascii "REG", e.registration],
   spaced ([ascii "ACCOUNT", decNat e.account] ++ if t.accountName.isEmpty then [] else [t.accountName]),
   spaced [ascii (Direction.word e.direction), ascii (if e.pass = .single then "SINGLE PASS" else "TWO PASS")]] ++
  weighLines (weighLabels e.direction).1 e.first ++
  weighLines (weighLabels e.direction).2 e.second ++
  tareLines e.tare ++
  [match e.net with
    | some n => spaced [ascii "NET", decNat n, ascii "KG"]
    | none => ascii "NET NONE",
   spaced [ascii "CAL", decNat e.calCounter]] ++
  (if e.zeroNet || e.tareRefreshed then
    [spaced ((if e.zeroNet then [ascii "ZERO NET"] else []) ++ if e.tareRefreshed then [ascii "TARE REFRESHED"] else [])]
   else []) ++
  [if e.unset then ascii "TIME NOT SET" else spaced [ascii "DAY", decNat e.day, timeOfDay e.secondOfDay]]

/-- The text of a ticket: each line ends with CR LF, the whole with a form feed. -/
def ticketText (set : TicketSet) (t : Ticket) : Text :=
  (ticketLines set t).flatMap (fun l => l ++ [0x0D, 0x0A]) ++ [0x0C]

/-! ## Print queues and printers (R179 to R182) -/

/-- A READY printer with a ticket begins to send the head (R180): PRINTING, the text built now, the REPRINT mark set after. -/
def startPrinting (p : Printer) (s : State) : State :=
  let r := s.tickets.printers.get p
  match r.state, r.queue with
  | .ready, t :: ts =>
    s.modPrinter p fun r =>
      { r with state := .printing, sending := some (ticketText s.settings.ticket t),
               queue := { t with reprint := true } :: ts }
  | _, _ => s

/-- The account name a ticket copies (R179): blank when the account is not in the table. -/
def State.accountName (s : State) (n : Nat) : Text := match s.account n with
  | some a => a.name
  | none => []

/-- A ticket joins a printer's queue (R179), and a READY printer begins to send (R180). -/
def queueTicket (p : Printer) (e : JournalEntry) (copy : Bool) (s : State) : State :=
  startPrinting p (s.modPrinter p fun r =>
    { r with queue := r.queue ++ [{ content := e, accountName := s.accountName e.account, copy := copy, reprint := false }] })

def PrinterState.word : PrinterState → String
  | .offline => "OFFLINE"
  | .ready => "READY"
  | .printing => "PRINTING"
  | .paperOut => "PAPER_OUT"

/-- The ticket number at the head of a printer's queue, or an empty field. -/
def headTicket (r : PrinterRec) : Field := match r.queue with
  | [] => .empty
  | t :: _ => .num t.content.ticket

/-- The PRINTER notice (R181). -/
def printerNotice (p : Printer) (s : State) : State :=
  let r := s.tickets.printers.get p
  notify .system "PRINTER" [.word (Printer.word p), .word (PrinterState.word r.state), headTicket r] s

/-- A printer enters PAPER_OUT or OFFLINE (R181, R182): transmission and status timer stop, the enquiry timer starts. -/
def printerStop (p : Printer) (st : PrinterState) (s : State) : State :=
  printerNotice p (s.modPrinter p fun r =>
    { r with state := st, sending := none, statusTimer := none, enquiryTimer := some 5000 })

/-- A printer in PAPER_OUT or OFFLINE resumes (R181): READY, then R180. -/
def printerResume (p : Printer) (s : State) : State :=
  startPrinting p (printerNotice p (s.modPrinter p fun r => { r with state := .ready, enquiryTimer := none }))

/-- The printer of a platform (R163). -/
def printerOf : Platform → Printer
  | .a => .a
  | .ab => .a
  | .b => .b

/-- The platform of a mode that a printer serves (R163). -/
def platformOfPrinter : Mode → Printer → Option Platform
  | .split, .a => some .a
  | .split, .b => some .b
  | .combined, .a => some .ab
  | .combined, .b => none

end Sys2Proof.Machine
end

