-- ==== Sys2Proof/Machine/Engine.lean ====
section
/-! DEFINITION. The weighing engine's shared operations: filters, held results, captures, REFILL (chapters 1 to 3). -/

namespace Sys2Proof.Machine

/-- The engine restarts a platform's filter (R25). -/
def restartFilter (p : Platform) (s : State) : State := s.modChain p Chain.restartFilter

/-- The filters of every platform of the current mode restart (R25). -/
def restartFilters (s : State) : State := (Mode.platforms s.plat.mode).foldl (fun s p => restartFilter p s) s

/-- A capture opens on a platform (R46); one that is open is cancelled first. -/
def openCapture (p : Platform) (s : State) : State :=
  s.modChain p fun c => { c with capture := some { lastReason := none, timer := s.settings.weigh.captureTimeout * 1000 } }

/-- A platform's open capture is cancelled (R51); without one there is no effect. -/
def cancelCapture (p : Platform) (s : State) : State := s.modChain p fun c => { c with capture := none }

/-- An open capture's last reason becomes INVALID (R49). -/
def Chain.invalidateCapture (c : Chain) : Chain :=
  { c with capture := c.capture.map fun k => { k with lastReason := some .invalid } }

/-- A chain whose link left RUNNING (R33, R49). -/
def Chain.linkLeft (c : Chain) : Chain :=
  { c with latest := { c.latest with flags := c.latest.flags.toStale } }.invalidateCapture

/-- Platform AB's chain at a REFILL start (R33, R49). -/
def Chain.refillStarted (c : Chain) : Chain :=
  { c with latest := { c.latest with flags := c.latest.flags.toRefill } }.invalidateCapture

/-- An intake at a REFILL start: flushed, marked, counted (R13). -/
def Intake.startRefill (i : Intake) : Intake :=
  { i with entries := [], refill := true, counts := { i.counts with refills := satSucc i.counts.refills } }

/-- REFILL starts (R13): both intakes flushed, marked and counted, the sync line pulsed, platform AB's result marked. Where an
earlier pulse is still driven the line stays active. DESIGN CHOICE (log 49). -/
def refillStart (s : State) : State :=
  { s with
    intakes := { a := s.intakes.a.startRefill, b := s.intakes.b.startRefill }, sync := true,
    chains := { s.chains with ab := s.chains.ab.refillStarted } }

/-- Both links RUNNING. -/
def State.bothRunning (s : State) : Bool := s.intakes.a.link == .running && s.intakes.b.link == .running

/-- A platform's link, or both links for AB, RUNNING (R32, R34). -/
def State.linksRunning (s : State) (p : Platform) : Bool :=
  (platformDecks p).all fun d => (s.intakes.get d).link == .running

/-- The latest result of a new mode's platform (R34): blank, A and the sequence kept. -/
def blankResult (p : Platform) (s : State) : State :=
  s.modChain p fun c =>
    { c with latest :=
        { c.latest with
          w := none,
          flags := { Flags.clear with
            stale := !s.linksRunning p, refill := p == .ab, uncalibrated := !s.calibrated p } } }

end Sys2Proof.Machine
end

