-- ==== Sys2Proof/Machine/Visits.lean ====
section
/-! DEFINITION. The platform controllers' transitions (chapter 6) and the visit unit's (chapter 9), which drive each other
within one event. -/

namespace Sys2Proof.Machine

/-! ## HOLD, exit release, positioning (R103, R106, R108, R109) -/

def visitField (v : Option Nat) : Field := optNum v

/-- A platform enters HOLD (R108). -/
def enterHold (p : Platform) (why : HoldReason) (resume : ResumePoint) (s : State) : State :=
  let r := s.platRec p
  let s1 := putRec p { r with state := .hold, holdReason := some why, resume := some resume, callTimer := none } s
  let s2 := lampOff (s.entryBar p) (lowerReq (s.entryBar p) s1)
  let s3 := if resume = .exit then s2 else lampOff (s.exitBar p) (lowerReq (s.exitBar p) s2)
  notify .platform "PLATFORM_HOLD"
    [platField p, visitField r.visit, .word (HoldReason.word why), .word (ResumePoint.word resume)] s3

/-- An exit release taken from WEIGHING or AWAITING, or on a resume or release from HOLD (R106, R110, R111).
DEDUCED (log 31). -/
def release (p : Platform) (outcome : ExitOutcome) (s : State) : State :=
  let r := { s.platRec p with
    outcome := some outcome, beamSeen := false, passed := false, holdReason := none, resume := none }
  if (s.bar (s.exitBar p)).state = .fault then enterHold p .barrier .exit (s.modRec p fun _ => r)
  else
    notify .platform "RELEASED" [platField p, visitField r.visit, .word (ExitOutcome.word outcome)]
      (putRec p { r with state := .exiting } (lampOn (s.exitBar p) (raiseReq (s.exitBar p) s)))

/-- An exit release reaches a platform (R106, R109): WEIGHING and AWAITING take it, HOLD records it. -/
def exitRelease (p : Platform) (outcome : ExitOutcome) (s : State) : State :=
  let r := s.platRec p
  match r.state with
  | .weighing => release p outcome s
  | .awaiting => release p outcome s
  | .hold => putRec p { r with outcome := some outcome, beamSeen := false, passed := false, resume := some .exit } s
  | .free => s
  | .calling => s
  | .entering => s
  | .positioning => s
  | .exiting => s
  | .switching => s

/-- POSITIONING's test (R103): both outer beams clear and the entry barrier DOWN together open a capture in WEIGHING. -/
def positioningTest (p : Platform) (s : State) : State :=
  let r := s.platRec p
  if r.state = .positioning && !s.beamBroken (s.entryBar p) && !s.beamBroken (s.exitBar p) &&
      (s.bar (s.entryBar p)).state == .down then
    openCapture p (putRec p { r with state := .weighing } s)
  else s

/-- A platform enters POSITIONING and tests R103 at once. -/
def enterPositioning (p : Platform) (s : State) : State :=
  positioningTest p
    (putRec p { s.platRec p with state := .positioning, holdReason := none, resume := none } s)

/-- A return to positioning reaches a platform (R105, R109). -/
def returnToPositioning (p : Platform) (s : State) : State :=
  let r := s.platRec p
  match r.state with
  | .awaiting => enterPositioning p s
  | .hold => putRec p { r with resume := some .positioning } s
  | .free => s
  | .calling => s
  | .entering => s
  | .positioning => s
  | .weighing => s
  | .exiting => s
  | .switching => s

/-- A weighing platform whose visit awaits a decision enters AWAITING (R104). -/
def toAwaiting (p : Platform) (s : State) : State :=
  if (s.platRec p).state = .weighing then putRec p { s.platRec p with state := .awaiting } s else s

/-- A platform enters FREE, unbound, with the entry end of the settings in force (R94, R106).
DEDUCED (log 20). -/
def freePlatform (p : Platform) (s : State) : State := putRec p (PlatRec.free (s.settings.plat.ends.get p)) s

/-! ## Visits that leave the deck or miss their call (R131, R159) -/

/-- The left-deck event reaches the visit unit (R159, R169). -/
def visitLeftDeck (id : Nat) (outcome : ExitOutcome) (s : State) : State := match outcome with
  | .nextTipping => modVisit id (fun v => { v with state := .tipping, leg := .second }) s
  | .nextCleared => modVisit id (fun v => { v with state := .cleared }) s
  | .nextQueued => notify .visit "REQUEUED" [.num id] (enterQueued id s)

/-- The vehicle has left the deck (R106). -/
def leftDeck (p : Platform) (s : State) : State :=
  let r := s.platRec p
  match r.visit, r.outcome with
  | some id, some outcome =>
    visitLeftDeck id outcome
      (freePlatform p (notify .platform "LEFT_DECK" [platField p, .num id] s))
  | _, _ => freePlatform p s

/-- A no-show reaches the visit unit (R131). -/
def noShow (id : Nat) (s : State) : State := match s.visitById id with
  | none => s
  | some v =>
    if v.noShows + 1 < s.settings.yard.noShowLimit then
      enterQueued id (modVisit id (fun v => { v with noShows := v.noShows + 1 }) s)
    else
      notify .visit "VISIT_HELD" [.num id, .word "NO_SHOW"]
        (modVisit id (fun v => { v with noShows := v.noShows + 1, state := .held, holdReason := some .noShow }) s)

/-! ## Completion and voids (R163 to R166) -/

/-- The names of a visit's flags, in the order of section 9.1. -/
def Visit.flagNames (v : Visit) : List String :=
  setNames [(v.entered, "ENTERED_SITE"), (v.journalled, "JOURNALLED"), (v.voided, "VOIDED"), (v.zeroNet, "ZERO_NET"),
    (v.tareRefreshed, "TARE_REFRESHED")]

/-- The visit's account is settled (R148). -/
def settleVisit (id net : Nat) (s : State) : State := match s.visitById id with
  | some v => settle v.account v.estimate net s
  | none => s

/-- The newest journal entry's ticket joins a printer's queue, unless printing is suppressed (step 5 of R164). -/
def queueNewest (p : Printer) (s : State) : State :=
  if (s.tickets.printers.get p).suppressed then s
  else match s.tickets.journal.getLast? with
    | some e => queueTicket p e false s
    | none => s

/-- The COMPLETED notice (R164). -/
def completedNotice (id : Nat) (s : State) : State := match s.visitById id with
  | some v => notify .visit "COMPLETED" [.num id, optNum v.ticket, optNum v.net, plusField v.flagNames] s
  | none => s

/-- A completion that proceeds (R164): ticket number, tare refresh, journal entry, settlement, ticket, JOURNALLED, exit
release. -/
def proceed (id : Nat) (p : Platform) (s : State) : State :=
  let net := match s.visitById id with
    | some v => v.net.getD 0
    | none => 0
  let s1 := appendEntry id .transaction (refreshTare id (takeTicket id s))
  let s2 := queueNewest (printerOf p) (settleVisit id net s1)
  let s3 := completedNotice id (modVisit id (fun v => { v with journalled := true, state := .onDeck }) s2)
  exitRelease p .nextCleared s3

/-- Completion begins (R163): PRINT_WAIT on a full print queue with printing not suppressed, R164 otherwise. -/
def complete (id : Nat) (p : Platform) (s : State) : State :=
  let r := s.tickets.printers.get (printerOf p)
  if !r.suppressed && 4 ≤ r.queue.length then
    notify .visit "PRINT_WAIT" [.num id, .word (Printer.word (printerOf p))]
      (toAwaiting p (modVisit id (fun v => { v with state := .printWait }) s))
  else proceed id p s

/-- A void (R166). -/
def voidVisit (id : Nat) (s : State) : State :=
  let s1 := settleVisit id 0 (appendEntry id .void (takeTicket id s))
  let s2 := modVisit id (fun v => { v with journalled := true, voided := true }) s1
  match s2.visitById id with
  | some v => notify .visit "VOIDED" [.num id, optNum v.ticket] s2
  | none => s2

/-- The visit bound to a platform. -/
def State.boundVisit (s : State) (p : Platform) : Option Visit := (s.platRec p).visit.bind s.visitById

/-- A printer's place freed, or its suppression set on: a visit in PRINT_WAIT for it resumes (R165). -/
def resumePrintWait (pr : Printer) (s : State) : State := match platformOfPrinter s.plat.mode pr with
  | none => s
  | some p => match s.boundVisit p with
    | some v => if v.state = .printWait then proceed v.id p s else s
    | none => s

/-! ## The weighing delivered (R160 to R162) -/

/-- The net by direction and pass mode (R161). -/
def Visit.netOf (v : Visit) : Option Int := match v.direction, v.pass, v.first, v.second, v.tare with
  | .inbound, .two, some f, some g, _ => some (f.weight - g.weight)
  | .inbound, .single, some f, _, some t => some (f.weight - t.weight)
  | .outbound, .two, some f, some g, _ => some (g.weight - f.weight)
  | _, _, _, _, _ => none

/-- The net of a visit is decided (R161, R162). -/
def decideNet (id : Nat) (p : Platform) (s : State) : State := match (s.visitById id).bind Visit.netOf with
  | none => s
  | some n =>
    if 0 ≤ n then complete id p (modVisit id (fun v => { v with net := some n.toNat }) s)
    else if !s.watch.online && s.settings.policy == .acceptZero then
      complete id p (modVisit id (fun v => { v with net := some 0, zeroNet := true }) s)
    else
      notify .visit "QUERY" [.num id, platField p, .num n]
        (toAwaiting p (modVisit id (fun v => { v with state := .query }) s))

def Leg.word : Leg → String
  | .first => "FIRST"
  | .second => "SECOND"

/-- The WEIGHED notice (R160). -/
def weighedNotice (id : Nat) (leg : Leg) (w : WeighRec) (s : State) : State :=
  notify .visit "WEIGHED"
    [.num id, .word (Leg.word leg), .num w.weight, .num w.number, platField w.platform] s

/-- A weighing record reaches the visit unit through its platform (R104, R160). -/
def deliverWeighing (p : Platform) (w : WeighRec) (s : State) : State := match s.boundVisit p with
  | none => s
  | some v => match v.pass, v.leg with
    | .two, .first =>
      exitRelease p .nextTipping
        (weighedNotice v.id v.leg w (modVisit v.id (fun v => { v with first := some w }) s))
    | .two, .second =>
      decideNet v.id p (weighedNotice v.id v.leg w (modVisit v.id (fun v => { v with second := some w }) s))
    | .single, _ =>
      decideNet v.id p (weighedNotice v.id v.leg w (modVisit v.id (fun v => { v with first := some w }) s))

/-- The weighing of the current leg is discarded (R162, R169): the first of a SINGLE visit, the second of a TWO visit at leg
SECOND. -/
def Visit.discardWeighing (v : Visit) : Visit := match v.pass, v.leg with
  | .single, _ => { v with first := none }
  | .two, .second => { v with second := none }
  | .two, .first => v

/-! ## Calls (R99, R101, R102) -/

/-- A platform takes a grant or a host CALL of a visit (R99, R125). -/
def takeCall (p : Platform) (id : Nat) (s : State) : State :=
  let e := s.settings.plat.ends.get p
  let s1 := modVisit id (fun v => { v with state := .called }) (leaveQueue id s)
  let s2 := putRec p
    { PlatRec.free e with
      state := .calling, visit := some id, callTimer := some (s.settings.yard.callTimeout * 1000) } s1
  notify .platform "CALLED"
    [platField p, .num id, .text (s2.boundRegistration (s2.platRec p)), .word (DeckEnd.word e)] s2

/-- The call timer expires (R101): taken in CALLING. -/
def callExpiry (p : Platform) (s : State) : State :=
  let r := s.platRec p
  if r.state = .calling then
    let s1 := lampOff (s.entryBar p) (lowerReq (s.entryBar p) s)
    let s2 := freePlatform p (notify .platform "NO_SHOW" [platField p, visitField r.visit] s1)
    match r.visit with
    | some id => noShow id s2
    | none => s2
  else s

/-- The called vehicle is on the deck (R102, R158). -/
def vehicleOnDeck (p : Platform) (s : State) : State :=
  let r := s.platRec p
  let s1 := putRec p { r with state := .entering, callTimer := none } s
  let s2 := match r.visit with
    | some id => modVisit id (fun v => { v with state := .onDeck, noShows := 0 }) s1
    | none => s1
  notify .platform "ON_DECK" [platField p, visitField r.visit] s2

/-! ## Switching mode (R115, R116) -/

/-- The inner barriers, where the decks meet (R94). -/
def innerBarriers : List Barrier := [.aS, .bN]

/-- The state both inner barriers take in a mode (R115). -/
def innerTarget : Mode → BarState
  | .combined => .up
  | .split => .down

/-- The requests that bring the inner barriers to a mode's state: raises, or lowers with lamp-off (R115, R116); a faulted one
is asked for nothing. -/
def askInner (m : Mode) (s : State) : State := match m with
  | .combined => innerBarriers.foldl (fun s b => raiseReq b s) s
  | .split => innerBarriers.foldl
      (fun s b => if (s.bar b).state = .fault then s else lampOff b (lowerReq b s)) s

/-- All platform records in FREE with the settings' ends. -/
def freeRecs (s : State) : PerPlatform PlatRec :=
  { a := PlatRec.free s.settings.plat.ends.a, b := PlatRec.free s.settings.plat.ends.b,
    ab := PlatRec.free s.settings.plat.ends.ab }

/-- The intakes leave REFILL by a change to SPLIT (R14). -/
def clearRefillMarks (s : State) : State :=
  { s with intakes :=
      { a := { s.intakes.a with refill := false }, b := { s.intakes.b with refill := false } } }

/-- A mode switch completes (R115). -/
def completeSwitch (m : Mode) (s : State) : State :=
  let s1 := { s with plat := { s.plat with mode := m, target := none, recs := freeRecs s } }
  let s2 := (Mode.platforms m).foldl (fun s p => blankResult p (restartFilter p s)) s1
  let s3 := match m with
    | .combined => refillStart (setZero .ab (s2.chains.a.z + s2.chains.b.z) s2)
    | .split => clearRefillMarks s2
  notify .platform "MODE_CHANGED" [.word (Mode.word m)] (refreshBeacons (judgeSigns s3))

/-- SWITCHING's test (R115): both inner barriers in the target state together complete the switch. -/
def testSwitch (s : State) : State := match s.plat.target with
  | some m => if innerBarriers.all fun b => (s.bar b).state == innerTarget m then completeSwitch m s else s
  | none => s

/-- A mode switch begins (R115). -/
def beginSwitch (m : Mode) (s : State) : State :=
  let s1 := (Mode.platforms s.plat.mode).foldl
    (fun s p => putRec p { s.platRec p with state := .switching } s)
    { s with plat := { s.plat with target := some m } }
  testSwitch (askInner m s1)

/-- A switch ends without a mode change (R116). -/
def failSwitch (why : String) (s : State) : State := match s.plat.target with
  | none => s
  | some m =>
    let s1 := (Mode.platforms s.plat.mode).foldl (fun s p => freePlatform p s)
      { s with plat := { s.plat with target := none } }
    notify .platform "MODE_FAILED" [.word (Mode.word m), .word why] (askInner s.plat.mode s1)

/-! ## What barrier and beam changes do to a platform (R95, R96, R102 to R107) -/

/-- A barrier of the platform enters FAULT (R107). -/
def platFault (p : Platform) (s : State) : State := match (s.platRec p).state with
  | .free => s
  | .calling => enterHold p .barrier .none s
  | .entering => enterHold p .barrier .positioning s
  | .positioning => enterHold p .barrier .positioning s
  | .weighing => enterHold p .barrier .positioning (cancelCapture p s)
  | .awaiting => enterHold p .barrier .awaiting s
  | .exiting => enterHold p .barrier .exit s
  | .hold => s
  | .switching => s

/-- A barrier enters a state other than FAULT, outside SWITCHING (R95, R96, R102, R103, R106). -/
def platBarrierMoved (p : Platform) (b : Barrier) (st : BarState) (s : State) : State :=
  let r := s.platRec p
  if (innerBarriersOf p).contains b then
    if st = .down || st = .lowering then raiseReq b s else s
  else match r.state with
    | .free => if st = .up then lowerReq b s else s
    | .calling => if b = s.entryBar p && st = .up && s.beamBroken b then vehicleOnDeck p s else s
    | .positioning => if b = s.entryBar p then positioningTest p s else s
    | .exiting => if b = s.exitBar p && st = .down && r.passed then leftDeck p s else s
    | .entering => s
    | .weighing => s
    | .awaiting => s
    | .hold => s
    | .switching => s

/-- A deck-end barrier's new state reaches the platform controller (R64). -/
def platBarrier (b : Barrier) (st : BarState) (s : State) : State := match s.platUser b with
  | none => s
  | some p =>
    if (s.platRec p).state = .switching then
      if innerBarriers.contains b then (if st = .fault then failSwitch "FAULT" s else testSwitch s) else s
    else if st = .fault then platFault p s
    else platBarrierMoved p b st s

/-- A beam of a platform's outer barriers changes (R102 to R106, R109). -/
def platBeam (b : Barrier) (broken : Bool) (s : State) : State := match s.platUser b with
  | none => s
  | some p =>
    let r := s.platRec p
    let isEntry := b = s.entryBar p
    let isExit := b = s.exitBar p
    match r.state with
    | .calling => if isEntry && broken && (s.bar b).state == .up then vehicleOnDeck p s else s
    | .entering =>
      if isEntry && !broken then
        positioningTest p (lowerReq b (putRec p { r with state := .positioning } s))
      else s
    | .positioning => if isEntry || isExit then positioningTest p s else s
    | .weighing => if (isEntry || isExit) && broken then enterPositioning p (cancelCapture p s) else s
    | .exiting =>
      if !isExit || r.passed then s
      else if broken then putRec p { r with beamSeen := true } s
      else if r.beamSeen then lowerReq b (putRec p { r with passed := true } s)
      else s
    | .hold =>
      if !isExit || r.resume != some .exit then s
      else if broken then putRec p { r with beamSeen := true } s
      else if r.beamSeen then lowerReq b (putRec p { r with passed := true } s)
      else s
    | .free => s
    | .awaiting => s
    | .switching => s

end Sys2Proof.Machine
end

