-- ==== Sys2Proof/Machine/Gates.lean ====
section
/-! DEFINITION. The gate controllers, admissions and the return point (chapter 5), with the creation of visits (chapter 9). -/

namespace Sys2Proof.Machine

/-! ## Answers to requests (R204, R205) -/

/-- What an owning rule makes of a request: the state after it, and its reply. -/
abbrev Answer := State × Reply

/-- A refused request changes no state (R204). -/
def refuse (code : ErrCode) (s : State) : Answer := (s, .err code)

/-- A taken request: the state it leaves, and the fields of its OK reply. -/
def accept (s : State) (fields : List Field) : Answer := (s, .ok fields)

/-! ## Gates and their barriers (R83 to R85) -/

/-- The barrier of a gate (sections 5.4, 5.6). -/
def gateBar : Gate → Barrier
  | .entry => .eN
  | .exit => .eX

def State.gate (s : State) (g : Gate) : GateRec := s.gates.get g

def gateField (g : Gate) : Field := .word (Gate.word g)

/-- The REFUSED notice (R82, R88, R89). -/
def refusedNotice (g : Gate) (tag : Text) (reason : String) (s : State) : State :=
  notify .gate "REFUSED" [gateField g, .text tag, .word reason] s

/-- The gate hold in ms (R73). -/
def State.gateHoldMs (s : State) : Nat := s.settings.yard.gateHold * 1000

/-- A gate opens (step 5 of R81, R82, R89, R91): raise request, lamp-on command, OPEN for a visit or for none; a beam already
broken sets beam seen in place of starting the timer. -/
def openGate (g : Gate) (visit : Option Nat) (s : State) : State :=
  let broken := s.beamBroken (gateBar g)
  (lampOn (gateBar g) (raiseReq (gateBar g) s)).modGate g fun _ =>
    { state := .opened, openFor := visit, seen := broken, pendingTag := none,
      timer := if broken then none else some s.gateHoldMs }

/-- A gate enters CLOSED with nothing held (R83, R84, R86, R88). -/
def closeGate (g : Gate) (s : State) : State := s.modGate g fun _ => GateRec.reset

/-- The gate's barrier enters a state (R83, R84, R85). -/
def gateBarrier (g : Gate) (st : BarState) (s : State) : State := match (s.gate g).state, st with
  | .closed, .up => lowerReq (gateBar g) s
  | .opened, .down => closeGate g s
  | .opened, .fault => closeGate g s
  | .waitHost, .fault => refusedNotice g ((s.gate g).pendingTag.getD []) "BARRIER" (closeGate g s)
  | _, _ => s

/-- The open-for visit of a gate, while it is still open (R83, R90). -/
def State.openForStill (s : State) (g : Gate) : Option Nat := match (s.gate g).openFor with
  | some id => match s.visitById id with
    | some _ => some id
    | none => none
  | none => none

/-- A gate that is no longer open for the visit with the id. -/
def GateRec.without (id : Nat) (r : GateRec) : GateRec := { r with openFor := if r.openFor = some id then none else r.openFor }

/-- The visit with the id leaves the open-visit table (R153), and no gate is open for it any more (R83, R90).
DEDUCED (log 36). -/
def removeVisit (id : Nat) (s : State) : State :=
  { s with
    gates := { entry := s.gates.entry.without id, exit := s.gates.exit.without id },
    visits := { s.visits with table := s.visits.table.filter fun v => v.id != id } }

/-- What a passage does to the visit a gate is open for: ENTERED_SITE at the entry gate (R83), removal at the exit gate (R90). -/
def passVisit (g : Gate) (visit : Option Nat) (s : State) : State := match g, visit with
  | .entry, some id => modVisit id (fun v => { v with entered := true }) s
  | .exit, some id => removeVisit id s
  | _, none => s

/-- A passage through an OPEN gate (R83, R90). -/
def passage (g : Gate) (s : State) : State :=
  let visit := s.openForStill g
  notify .gate "PASSED" [gateField g, optNum visit]
    ((lowerReq (gateBar g) (passVisit g visit s)).modGate g fun r => { r with openFor := none, seen := false })

/-- The gate's beam changes (R83, R90): it counts in OPEN alone. -/
def gateBeam (g : Gate) (broken : Bool) (s : State) : State :=
  let r := s.gate g
  match r.state, broken, r.seen with
  | .opened, true, false => s.modGate g fun r => { r with seen := true, timer := none }
  | .opened, false, true => passage g s
  | _, _, _ => s

/-- The gate hold expires (R83, R90): taken in OPEN while it runs. GATE_TIMEOUT of a visit cancelled meanwhile has no id.
DEDUCED (log 36). -/
def gateHoldFires (g : Gate) (s : State) : State := match (s.gate g).state, (s.gate g).timer with
  | .opened, some _ =>
    notify .gate "GATE_TIMEOUT" [gateField g, optNum (s.openForStill g)]
      ((lowerReq (gateBar g) s).modGate g fun r => { r with openFor := none, timer := none })
  | _, _ => s

/-- EN.LOOP becomes inactive in WAIT_HOST (R86). -/
def entryLoopLeft (s : State) : State := match (s.gate .entry).state with
  | .waitHost => notify .gate "WAIT_ENDED" [.text ((s.gate .entry).pendingTag.getD [])] (closeGate .entry s)
  | .closed => s
  | .opened => s

/-! ## Creation of visits (R154 to R156) -/

/-- The id after an id: 65,535 is followed by 1 (R154). -/
def nextId (n : Nat) : Nat := if n < 65535 then n + 1 else 1

/-- The first id from n on, in so many steps, that no open visit holds (R154). -/
def searchId (table : List Visit) : Nat → Nat → Nat
  | 0, n => n
  | k + 1, n => if table.any fun v => v.id == n then searchId table k (nextId n) else n

/-- The stored tare a new visit copies, present when its pass mode is SINGLE (R156). -/
def State.admissionTare (s : State) (direction : Direction) (account : Nat) (vehicle : Option Vehicle) : Option StoredTare :=
  match direction, vehicle, s.account account with
  | .inbound, some v, some a => if a.tarePermitted && s.tareCurrent v then v.tare else none
  | _, _, _ => none

/-- What an admission says of a vehicle (R81, R87). -/
structure Admittee where
  tag : Text
  vehicle : Option Nat
  registration : Text
  account : Nat
  cls : Nat
  length : Length
  direction : Direction
  estimate : Nat
  tare : Option StoredTare
deriving DecidableEq, Repr

/-- A new visit (R155) under an id, stamped by the day clock (R191). -/
def newVisit (s : State) (id : Nat) (a : Admittee) : Visit :=
  { id := id, tag := a.tag, vehicle := a.vehicle, registration := a.registration, account := a.account, cls := a.cls,
    length := a.length, direction := a.direction, pass := if a.tare.isSome then .single else .two, estimate := a.estimate,
    state := .queued, leg := .first, first := none, second := none, tare := a.tare, net := none, holdReason := none,
    noShows := 0, entered := false, journalled := false, voided := false, zeroNet := false, tareRefreshed := false,
    ticket := none, admDay := s.time.day, admSecond := s.time.second, admUnset := !s.time.valid }

/-- The id the next new visit takes (R154). -/
def State.freshId (s : State) : Nat := searchId s.visits.table 33 s.visits.nextId

/-- A visit is created at the end of the open-visit table (R153 to R155). -/
def createVisit (a : Admittee) (s : State) : State :=
  { s with visits := { table := s.visits.table ++ [newVisit s s.freshId a], nextId := nextId s.freshId } }

/-- An admission (R81, R87): the visit, its reservation, its queue place, the gate. -/
def admission (a : Admittee) (s : State) : State :=
  let id := s.freshId
  notify .gate "ADMITTED" [.num id, .text a.tag, .text a.registration, .num a.account]
    (openGate .entry (some id) (joinQueue id (reserve a.account a.estimate (createVisit a s))))

/-- Check 5 of R80. -/
def allowanceHolds (a : Account) (estimate : Nat) : Bool := match a.allowance with
  | some most => a.dayUsed + a.reserved + estimate ≤ most
  | none => true

/-- Check 6 of R80. -/
def State.visitRoom (s : State) : Bool := s.visits.table.length < 32

/-- Check 7 of R80. -/
def State.journalRoom (s : State) : Bool := s.unjournalled < s.journalFree

/-! ## Reads (R80, R82, R86, R89, R92) -/

/-- The entry gate opens again for a visit without ENTERED_SITE (R82). -/
def reopen (v : Visit) (tag : Text) (s : State) : State :=
  notify .gate "REOPENED" [.num v.id, .text tag] (openGate .entry (some v.id) s)

/-- What the entry gate takes from a vehicle record (R136). -/
def admitteeOf (s : State) (slot : Nat) (v : Vehicle) : Admittee :=
  { tag := v.tag, vehicle := some slot, registration := v.registration, account := v.account, cls := v.cls,
    length := v.length, direction := v.direction, estimate := v.estimate,
    tare := s.admissionTare v.direction v.account (some v) }

/-- Checks 3 to 7 of R80 on a known vehicle: the reason of the first that fails. -/
def entryRefusal (s : State) (v : Vehicle) : Option String :=
  if v.blocked then some "VEHICLE"
  else match s.account v.account with
    | none => some "ACCOUNT"
    | some a =>
      if !a.active then some "ACCOUNT"
      else if !allowanceHolds a v.estimate then some "ALLOWANCE"
      else if !s.visitRoom then some "FULL"
      else if !s.journalRoom then some "JOURNAL"
      else none

/-- A fresh read at reader 1 (R80, R82, R86). -/
def entryRead (tag : Text) (s : State) : State := match (s.gate .entry).state with
  | .opened => s
  | .waitHost => s
  | .closed =>
    if (s.bar .eN).state = .fault then refusedNotice .entry tag "BARRIER" s
    else match s.visitByTag tag with
      | some v => if v.entered then refusedNotice .entry tag "ON_SITE" s else reopen v tag s
      | none => match s.vehicleByTag tag with
        | none =>
          if s.watch.online then
            notify .gate "UNKNOWN_TAG" [.text tag]
              (s.modGate .entry fun _ => { GateRec.reset with state := .waitHost, pendingTag := some tag })
          else refusedNotice .entry tag "UNKNOWN" s
        | some (slot, v) => match entryRefusal s v with
          | some reason => refusedNotice .entry tag reason s
          | none => admission (admitteeOf s slot v) s

/-- A fresh read at reader 2 (R89). -/
def exitRead (tag : Text) (s : State) : State := match (s.gate .exit).state with
  | .opened => s
  | .waitHost => s
  | .closed =>
    if (s.bar .eX).state = .fault then refusedNotice .exit tag "BARRIER" s
    else match s.visitByTag tag with
      | none => refusedNotice .exit tag "NO_VISIT" s
      | some v =>
        if v.state = .cleared then
          notify .gate "EXIT_OPENED" [.num v.id, .text tag] (openGate .exit (some v.id) s)
        else refusedNotice .exit tag "NOT_CLEARED" s

def VisitState.word : VisitState → String
  | .queued => "QUEUED"
  | .called => "CALLED"
  | .onDeck => "ON_DECK"
  | .query => "QUERY"
  | .printWait => "PRINT_WAIT"
  | .tipping => "TIPPING"
  | .held => "HELD"
  | .cleared => "CLEARED"

/-- A fresh read at reader 3 (R92). -/
def returnRead (tag : Text) (s : State) : State := match s.visitByTag tag with
  | none => notify .visit "RETURN_IGNORED" [.text tag, .word "NO_VISIT"] s
  | some v =>
    if v.state = .tipping then
      notify .visit "RETURNED" [.num v.id, .text tag] (enterQueued v.id (modVisit v.id (fun v => { v with leg := .second }) s))
    else notify .visit "RETURN_IGNORED" [.text tag, .word (VisitState.word v.state)] s

/-! ## Gate requests (R87, R88, R91) -/

/-- The fields of ADMIT in range (R87). -/
def admitRange (account cls estimate : Int) : Bool :=
  inRange 0 127 account && inRange 0 7 cls && inRange 0 60000 estimate

/-- Checks 4 to 7 for ADMIT (R87): the code of the first failure. -/
def admitRefusal (s : State) (account estimate : Nat) : Option ErrCode := match s.account account with
  | none => some .notFound
  | some a =>
    if !a.active then some .state
    else if !allowanceHolds a estimate then some .range
    else if !s.visitRoom then some .full
    else if !s.journalRoom then some .full
    else none

/-- The ADMIT request (R87). -/
def admitRule (fields : List Text) (s : State) : Answer := match fields with
  | [reg, acc, cls, len, dir, est] =>
    match parseDec acc, parseDec cls, parseWord Length.words len, parseWord Direction.words dir, parseDec est with
    | some a, some c, some l, some d, some e =>
      if !registrationOk reg then refuse .args s
      else if !admitRange a c e then refuse .range s
      else match (s.gate .entry).state, (s.gate .entry).pendingTag with
        | .waitHost, some tag => match admitRefusal s a.toNat e.toNat with
          | some code => refuse code s
          | none =>
            accept
              (admission
                { tag := tag, vehicle := none, registration := reg, account := a.toNat, cls := c.toNat, length := l,
                  direction := d, estimate := e.toNat, tare := none } s)
              [.num s.freshId]
        | _, _ => refuse .state s
    | _, _, _, _, _ => refuse .args s
  | _ => refuse .args s

/-- The REFUSE request (R88). -/
def refuseRule (fields : List Text) (s : State) : Answer := match fields with
  | [] => match (s.gate .entry).state, (s.gate .entry).pendingTag with
    | .waitHost, some tag => accept (refusedNotice .entry tag "HOST" (closeGate .entry s)) [.text tag]
    | _, _ => refuse .state s
  | _ => refuse .args s

/-- The GATE_OPEN request (R91). -/
def gateOpenRule (fields : List Text) (s : State) : Answer := match fields with
  | [f] => match parseWord Gate.words f with
    | some g =>
      if (s.gate g).state = .closed && (s.bar (gateBar g)).state != .fault then
        accept (notify .gate "GATE_OPENED" [gateField g] (openGate g none s)) []
      else refuse .state s
    | none => refuse .args s
  | _ => refuse .args s

end Sys2Proof.Machine
end

