-- ==== Sys2Proof/Machine/Signals.lean ====
section
/-! DEFINITION. The signal unit (chapter 4): input conditioning, delivery of changes, and the requests on inputs and barriers. -/

namespace Sys2Proof.Machine

/-! ## Hand-over of barrier states (R64) -/

/-- A barrier's new state reaches its user (R64), and the beacons follow (R120). -/
def handOne (b : Barrier) (st : BarState) (s : State) : State := match b with
  | .eN => gateBarrier .entry st s
  | .eX => gateBarrier .exit st s
  | .aN => refreshBeacons (platBarrier .aN st s)
  | .aS => refreshBeacons (platBarrier .aS st s)
  | .bN => refreshBeacons (platBarrier .bN st s)
  | .bS => refreshBeacons (platBarrier .bS st s)

/-- The barrier states entered in an event reach the user in order (R64). -/
def hand (b : Barrier) (r : BarStep) : State := r.2.foldl (fun s st => handOne b st s) r.1

/-! ## Delivery (R57) -/

/-- The reader whose approach loop a barrier's loop is (R76). -/
def loopReader : Barrier → Reader
  | .eN => .r1
  | .eX => .r2
  | .aN => .r4
  | .aS => .r5
  | .bN => .r6
  | .bS => .r7

/-- A loop becoming inactive clears its reader's entry (R78). -/
def clearReader (r : Reader) (s : State) : State := { s with recent := s.recent.set r RecentRead.reset }

/-- A loop's change reaches its recipients (R57). -/
def deliverLoop (b : Barrier) (active : Bool) (s : State) : State :=
  if active then s
  else if b = .eN then entryLoopLeft (clearReader (loopReader b) s)
  else clearReader (loopReader b) s

/-- A beam's change reaches the barrier's user (R57). -/
def deliverUserBeam (b : Barrier) (broken : Bool) (s : State) : State := match b with
  | .eN => gateBeam .entry broken s
  | .eX => gateBeam .exit broken s
  | .aN => platBeam .aN broken s
  | .aS => platBeam .aS broken s
  | .bN => platBeam .bN broken s
  | .bS => platBeam .bS broken s

/-- A change of an input's effective level is delivered to the input's recipients (R57). -/
def deliverInput (i : InputId) (active : Bool) (s : State) : State := match i.line with
  | .loop => deliverLoop i.bar active s
  | .beam => deliverUserBeam i.bar active (hand i.bar (barBeam i.bar active s))
  | .up => hand i.bar (barUpLimit i.bar active s)
  | .down => hand i.bar (barDownLimit i.bar active s)

/-- An input takes a new record; a change of its effective level, and that alone, is delivered (R57). -/
def changeInput (i : InputId) (x : Input) (s : State) : State :=
  let old := Input.effective (s.inputs.input i)
  let t := s.modInput i fun _ => x
  if Input.effective x = old then t else deliverInput i (Input.effective x) t

/-! ## Conditioning (R54 to R56, R58) -/

/-- The logical level of an electrical level under a polarity (R54). -/
def logical (set : InputSet) (high : Bool) : Bool := high != set.activeLow

/-- An input's record after a raw electrical change (R55, R56). -/
def Input.rawChange (set : InputSet) (high : Bool) (x : Input) : Input :=
  let raw := logical set high
  match x.override with
  | .none =>
    if raw = x.deb then { x with high := high, debounce := none }
    else if set.debounce = 0 then { x with high := high, deb := raw, debounce := none }
    else { x with high := high, debounce := some set.debounce }
  | .forceActive => { x with high := high }
  | .forceInactive => { x with high := high }

/-- A raw electrical level arrives at an input. A level that it already has is no change; while STARTING the level is read
later (R61). -/
def rawArrives (i : InputId) (high : Bool) (s : State) : State :=
  let x := s.inputs.input i
  if x.high = high then s
  else if s.running then changeInput i (Input.rawChange (s.inputSet i) high x) s
  else s.modInput i fun _ => { x with high := high }

/-- A debounce expires (R55): the debounced level takes the raw level. -/
def debounceFires (i : InputId) (s : State) : State :=
  let x := s.inputs.input i
  match x.debounce with
  | some _ => changeInput i { x with deb := logical (s.inputSet i) x.high, debounce := none } s
  | none => s

/-- An input's record under a new override (R56). -/
def Input.setOverride (set : InputSet) (o : Override) (x : Input) : Input :=
  if x.override = o then x
  else match o with
    | .none => { x with override := .none, deb := logical set x.high, debounce := none }
    | .forceActive => { x with override := .forceActive, debounce := none }
    | .forceInactive => { x with override := .forceInactive, debounce := none }

/-- An input's record when its polarity has changed (R58): the level read anew, any debounce discarded. -/
def Input.repolarised (set : InputSet) (x : Input) : Input := { x with deb := logical set x.high, debounce := none }

/-- The inputs whose polarity two settings give differently, in INPUTS order. -/
def polarityChanged (old new : PerBarrier (PerLine InputSet)) : List InputId :=
  InputId.all.filter fun i => (old.input i).activeLow != (new.input i).activeLow

/-- A completed write of section 4 (R58, R62, R73): the settings live, the levels of repolarised inputs read anew, and then
the changes of effective level delivered in INPUTS order.
DEDUCED (log 29). -/
def applyYard (new : YardSet) (s : State) : State :=
  let changed := polarityChanged s.settings.yard.inputs new.inputs
  let live := { s with settings := { s.settings with yard := new } }
  let set := changed.foldl (fun t i => t.modInput i (Input.repolarised (new.inputs.input i))) live
  (changed.filter fun i => Input.effective (set.inputs.input i) != Input.effective (s.inputs.input i)).foldl
    (fun t i => deliverInput i (Input.effective (set.inputs.input i)) t) set

/-! ## Requests on inputs (R59, R60) -/

def Override.word (o : Override) : String := wordOf Override.words o

/-- The INPUT_OVERRIDE request (R59). -/
def inputOverrideRule (fields : List Text) (s : State) : Answer := match fields with
  | [name, value] => match parseInput name, parseWord Override.words value with
    | some i, some o =>
      let x := s.inputs.input i
      let t :=
        if x.override = o then s
        else
          changeInput i (Input.setOverride (s.inputSet i) o x)
            (notify .system "OVERRIDE" [.text (InputId.text i), .word (Override.word o)] s)
      accept t
        [.text (InputId.text i), .word (Override.word o),
         .word (if Input.effective (t.inputs.input i) then "ACTIVE" else "INACTIVE")]
    | _, _ => refuse .args s
  | _ => refuse .args s

/-- The report of an input (R60). -/
def inputFields (s : State) (i : InputId) : List Field :=
  let x := s.inputs.input i
  let level : Bool → Field := fun b => .word (if b then "A" else "I")
  [.text (InputId.text i), .word (if x.high then "H" else "L"), level x.deb,
   .word (match x.override with
     | .none => "N"
     | .forceActive => "FA"
     | .forceInactive => "FI"),
   level (Input.effective x)]

/-- The level of an output (R61): true is ON. -/
def State.output (s : State) : OutputId → Bool
  | .raise b => (s.drives.get b).raise
  | .lower b => (s.drives.get b).lower
  | .green b => (s.drives.get b).green
  | .beacon d => s.beacons.get d

/-- The report of an output (R60). -/
def outputFields (s : State) (o : OutputId) : List Field := [.text o.text, onOff (s.output o)]

/-- The INPUTS request (R60). -/
def inputsRule (fields : List Text) (s : State) : Answer := match fields with
  | [] => accept s (InputId.all.flatMap (inputFields s) ++ OutputId.all.flatMap (outputFields s))
  | [f] => match parseInput f, parseOutput f with
    | some i, _ => accept s (inputFields s i)
    | none, some o => accept s (outputFields s o)
    | none, none => refuse .args s
  | _ => refuse .args s

/-! ## Barrier timers and BARRIER_RESET (R69, R71) -/

/-- A travel timer expires (R69): taken while it runs. -/
def travelFires (b : Barrier) (s : State) : State := match (s.bar b).timer with
  | some _ => hand b (barTravelExpiry b s)
  | none => s

/-- The BARRIER_RESET request (R71). -/
def barrierResetRule (fields : List Text) (s : State) : Answer := match fields with
  | [f] => match parseWord Barrier.words f with
    | some b =>
      if (s.bar b).state = .fault then match barFromInputs b s with
        | some r => accept (hand b (setBar b r s, [r.state])) [barField b, .word (BarState.word r.state)]
        | none => refuse .state s
      else refuse .state s
    | none => refuse .args s
  | _ => refuse .args s

end Sys2Proof.Machine
end

