-- ==== Sys2Proof/Machine/Readers.lean ====
section
/-! DEFINITION. The reader receiver (chapter 5) and reads at the platforms (R100). -/

namespace Sys2Proof.Machine

/-! ## Reads at a platform's entry reader (R100) -/

/-- The platform of the current mode whose entry reader this is (R94, R100). -/
def State.platformAt (s : State) (r : Reader) : Option Platform :=
  (Mode.platforms s.plat.mode).find? fun p => entryReaderOf p (s.platRec p).entryEnd == r

/-- The tag of the visit bound to a platform. -/
def State.boundTag (s : State) (p : Platform) : Option Text := (s.boundVisit p).map (·.tag)

/-- A read at a platform's entry reader (R100): it counts in CALLING alone.
DEDUCED (log 28). -/
def platRead (p : Platform) (tag : Text) (s : State) : State :=
  let r := s.platRec p
  if r.state = .calling then
    if s.boundTag p = some tag then
      putRec p { r with wrong := false } (lampOn (s.entryBar p) (raiseReq (s.entryBar p) s))
    else
      notify .platform "WRONG_VEHICLE" [platField p, .text tag, .text (s.boundRegistration r)]
        (putRec p { r with wrong := true } s)
  else s

/-- A fresh read from readers 4 to 7 (R100): one at no current platform's entry reader is ignored. -/
def deckRead (r : Reader) (tag : Text) (s : State) : State := match s.platformAt r with
  | some p => platRead p tag s
  | none => s

/-! ## The receiver (R74 to R79) -/

/-- A fresh read goes to the block its address names (R79). -/
def dispatchRead (r : Reader) (tag : Text) (s : State) : State := match r with
  | .r1 => entryRead tag s
  | .r2 => exitRead tag s
  | .r3 => returnRead tag s
  | .r4 => deckRead .r4 tag s
  | .r5 => deckRead .r5 tag s
  | .r6 => deckRead .r6 tag s
  | .r7 => deckRead .r7 tag s

/-- The barrier whose loop a reader needs active (R76); reader 3 has none. -/
def readerBarrier : Reader → Option Barrier
  | .r1 => some .eN
  | .r2 => some .eX
  | .r3 => none
  | .r4 => some .aN
  | .r5 => some .aS
  | .r6 => some .bN
  | .r7 => some .bS

/-- The loop test (R76). -/
def State.loopAllows (s : State) (r : Reader) : Bool := match readerBarrier r with
  | some b => s.effective b .loop
  | none => true

/-- A report is fresh against its reader's entry (R77). -/
def RecentRead.fresh (e : RecentRead) (tag : Text) : Bool := match e.tag with
  | none => true
  | some t => t != tag || e.hold == .expired

/-- A report taken under R76 restarts the hold timer, and a fresh one is dispatched (R77). -/
def takeReport (r : Reader) (tag : Text) (s : State) : State :=
  let e : RecentRead := { tag := some tag, hold := .running (s.settings.yard.repeatHold * 1000) }
  let t := { s with recent := s.recent.set r e }
  if (s.recent.get r).fresh tag then dispatchRead r tag t else t

/-- A malformed report is counted (R75). -/
def countReaderError (s : State) : State := { s with readerErrors := satSucc s.readerErrors }

/-- A report ends at its CR (R74 to R77). One begun in STARTING, or ended in it, is discarded whole. -/
def reportEnds (chars : List RxByte) (begunStarting : Bool) (s : State) : State :=
  if !s.running || begunStarting then s
  else match parseReport chars with
    | none => countReaderError s
    | some (r, tag) => if s.loopAllows r then takeReport r tag s else s

/-- A report is abandoned at an inner '#' or at its 20th character (R74): one malformed report. One whose own '#' arrived in
STARTING is discarded whole, uncounted. -/
def reportAbandoned (begunStarting : Bool) (s : State) : State :=
  if s.running && !begunStarting then countReaderError s else s

/-- A hold timer expires (R77). -/
def repeatHoldFires (r : Reader) (s : State) : State := match (s.recent.get r).hold with
  | .running _ => { s with recent := s.recent.set r ({ s.recent.get r with hold := .expired }) }
  | .stopped => s
  | .expired => s

end Sys2Proof.Machine
end

