-- ==== Sys2Proof/Machine/Intake.lean ====
section
/-! DEFINITION. The deck intakes and the engine's consumption (chapters 1 to 3). -/

namespace Sys2Proof.Machine

def deckField (d : Deck) : Field := .word (Deck.word d)

/-! ## Well-formed frames (R4 to R9, R13, R14) -/

def State.combined (s : State) : Bool := s.plat.mode == .combined

/-- The frame timeout in force, in ms (R4). -/
def State.frameTimeout (s : State) : Nat := s.settings.weigh.frameTimeout

/-- A count of a run that stays at 255 (R6). -/
def runSucc (n : Nat) : Nat := if n < 255 then n + 1 else 255

/-- What the supervision of a channel did to its cell (R7). -/
inductive CellEvent where
  | none | faulted | cleared
deriving DecidableEq, Repr

/-- The supervision of one channel (R6, R7): the cell, the sample kept in the frame, and what befell the cell. -/
def superviseCell (faultAt clearAt : Nat) (ok : Bool) (sample : Int) (c : Cell) : Cell × Int × CellEvent :=
  if ok then
    let good := runSucc c.goodRun
    if c.faulted && clearAt ≤ good then
      ({ faulted := false, badRun := 0, goodRun := good, last := sample }, sample, .cleared)
    else ({ c with badRun := 0, goodRun := good, last := sample }, sample, .none)
  else
    let bad := runSucc c.badRun
    if !c.faulted && faultAt ≤ bad then ({ c with faulted := true, badRun := bad, goodRun := 0 }, c.last, .faulted)
    else ({ c with badRun := bad, goodRun := 0 }, c.last, .none)

/-- The supervision of a frame's channels in order (R6): the cells, the samples as kept, and each channel's event. -/
def superviseCells (faultAt clearAt : Nat) : List (Bool × Int) → List Cell → List (Cell × Int × CellEvent)
  | ch :: chs, c :: cs => superviseCell faultAt clearAt ch.1 ch.2 c :: superviseCells faultAt clearAt chs cs
  | _, _ => []

/-- The CELL_FAULT or CELL_CLEAR notice of a cell (R7). -/
def cellNotice (d : Deck) (cell : Nat) (e : CellEvent) (s : State) : State := match e with
  | .none => s
  | .faulted => notify .weigh "CELL_FAULT" [deckField d, .num cell] s
  | .cleared => notify .weigh "CELL_CLEAR" [deckField d, .num cell] s

/-- The notices of a frame's cells, in cell order from 1. -/
def cellNotices (d : Deck) : Nat → List CellEvent → State → State
  | _, [], s => s
  | n, e :: es, s => cellNotices d (n + 1) es (cellNotice d n e s)

/-- A link enters RUNNING (R4, R13, R25): the filter of a SPLIT deck restarts; in COMBINED mode REFILL starts when the other
link runs. -/
def linkEnters (d : Deck) (s : State) : State :=
  let t := notify .weigh "DL_RUNNING" [deckField d]
    (s.modIntake d fun i => { i with link := .running, stale := 0 })
  if s.combined then (if (s.intakes.get (otherDeck d)).link = .running then refillStart t else t)
  else restartFilter (deckPlatform d) t

/-- The frame counter check (R5): a counter that does not follow is counted as a gap, and the last counter is updated. -/
def counterCheck (d : Deck) (wasRunning : Bool) (counter : Byte) (s : State) : State :=
  let i := s.intakes.get d
  let gap := wasRunning && !i.refill && match i.last with
    | some c => counter != c + 1
    | none => false
  s.modIntake d fun i =>
    { i with last := some counter,
             counts := if gap then { i.counts with gaps := satSucc i.counts.gaps } else i.counts }

/-- Cell supervision of a frame (R6, R7), and the entry it makes of it (R8). -/
def supervise (d : Deck) (f : RawFrame) (s : State) : FrameEntry × State :=
  let i := s.intakes.get d
  let r := superviseCells s.settings.weigh.faultThreshold s.settings.weigh.clearThreshold f.channels i.cells
  let cells := r.map (·.1)
  ({ counter := f.counter, samples := r.map (·.2.1), badChannel := f.channels.any fun ch => !ch.1,
     cellFault := cells.any (·.faulted) },
   cellNotices d 1 (r.map (·.2.2)) (s.modIntake d fun i => { i with cells := cells }))

/-- The second intake leaves REFILL (R14): the combined filter restarts. -/
def refillEnded (d : Deck) (s : State) : State :=
  if (s.intakes.get (otherDeck d)).refill then s else restartFilter .ab s

/-- A well-formed frame reaches the intake (R8, R9, R14). -/
def intakeFrame (d : Deck) (e : FrameEntry) (s : State) : State :=
  let i := s.intakes.get d
  if i.refill then
    if e.counter = 0 then refillEnded d (s.modIntake d fun i => { i with entries := i.entries ++ [e], refill := false })
    else s
  else if i.entries.length < 8 then s.modIntake d fun i => { i with entries := i.entries ++ [e] }
  else
    let t := s.modCounts d fun c => { c with dropped := satSucc c.dropped }
    if s.combined && s.bothRunning then refillStart t else t

/-- A well-formed frame (R4 to R9): frame timer, link, counter, cells, intake. -/
def goodFrame (d : Deck) (f : RawFrame) (s : State) : State :=
  let wasRunning := (s.intakes.get d).link == .running
  let s1 := s.modIntake d fun i => { i with timer := some s.frameTimeout }
  let s2 := counterCheck d wasRunning f.counter (if wasRunning then s1 else linkEnters d s1)
  let r := supervise d f s2
  intakeFrame d r.1 r.2

/-- A burst has ended (R1 to R3): malformed bursts and wrong channel counts are counted, well-formed frames go on. -/
def burstEnds (d : Deck) (bytes : List RxByte) (s : State) : State :=
  if s.running then match parseBurst bytes with
    | some f =>
      if f.channels.length = (s.cal d).n then goodFrame d f s
      else s.modCounts d fun c => { c with badFrames := satSucc c.badFrames }
    | none => s.modCounts d fun c => { c with badFrames := satSucc c.badFrames }
  else s

/-! ## The frame timer (R10, R33, R49) -/

/-- The platform whose result a deck's link bears on (R33). -/
def linkLeaves (d : Deck) (s : State) : State :=
  (s.modIntake d fun i => { i with entries := [] }).modChain (s.userOfDeck d) Chain.linkLeft

/-- A frame timer expires (R10): taken in RUNNING and STALE. -/
def frameTimerFires (d : Deck) (s : State) : State :=
  let i := s.intakes.get d
  match i.timer, i.link with
  | some _, .running =>
    notify .weigh "DL_STALE" [deckField d]
      (linkLeaves d (s.modIntake d fun i =>
        { i with link := .stale, stale := 0, timer := some s.frameTimeout,
                 counts := { i.counts with staleEvents := satSucc i.counts.staleEvents } }))
  | some _, .stale =>
    if i.stale + 1 < s.settings.weigh.staleToFault then
      s.modIntake d fun i => { i with stale := i.stale + 1, timer := some s.frameTimeout }
    else
      notify .weigh "DL_FAULT" [deckField d]
        (s.modIntake d fun i => { i with stale := i.stale + 1, link := .fault, timer := none })
  | _, _ => s

/-- The sync pulse of 1 ms ends (R13), and with it any pulse started while it was driven. DESIGN CHOICE (log 49). -/
def syncPulseEnds (s : State) : State := { s with sync := false }

/-! ## Results and captures (R31, R47 to R52) -/

def CaptureReason.hold : CaptureReason → HoldReason
  | .invalid => .invalid
  | .aboveMax => .aboveMax
  | .belowMin => .belowMin
  | .motion => .motion

/-- The weighing record of a success (R52). -/
def weighRecord (p : Platform) (w : Int) (s : State) : WeighRec :=
  { weight := w, number := s.nextCapture, platform := p, day := s.time.day, second := s.time.second, unset := !s.time.valid }

/-- A capture succeeds with a weight (R47): number taken, capture closed, notice, and the record handed on (R104, R160). -/
def captureSuccess (p : Platform) (w : Int) (s : State) : State :=
  let rec' := weighRecord p w s
  let t := (cancelCapture p s)
  deliverWeighing p rec'
    (notify .weigh "CAPTURED" [platField p, .num rec'.number, .num w] { t with nextCapture := nextNumber s.nextCapture })

/-- The latest result is handed to the platform's open capture (R47, R48). -/
def judgeCapture (p : Platform) (s : State) : State :=
  let c := s.chains.get p
  match c.capture with
  | none => s
  | some k =>
    if captureSucceeds (s.divisionOf p) (s.maxOf p) c.latest then captureSuccess p (c.latest.w.getD 0) s
    else s.modChain p fun c =>
      { c with capture := some { k with lastReason := some (captureReason (s.divisionOf p) (s.maxOf p) c.latest) } }

/-- What the platform brings to a result, with the frame's marks (R32). -/
def State.resultContext (s : State) (p : Platform) (cellFault badChannel : Bool) : ResultContext :=
  { d := s.divisionOf p, max := s.maxOf p, linksRunning := s.linksRunning p,
    inRefill := p == .ab && (s.intakes.a.refill || s.intakes.b.refill), calibrated := s.calibrated p,
    cellFault := cellFault, badChannel := badChannel }

/-- A result is produced for a platform from an unclamped fine weight (R24 to R32), and its capture judges it (R47). -/
def produce (p : Platform) (unclamped : Int) (cellFault badChannel : Bool) (s : State) : State :=
  let w := s.settings.weigh
  judgeCapture p
    (s.modChain p (produceResult w.n w.m w.band (s.resultContext p cellFault badChannel) unclamped))

/-! ## Consumption (R11, R12) -/

/-- The engine may consume a deck's head (R11). -/
def State.frameReady (s : State) (d : Deck) : Bool :=
  s.running && !s.combined && !s.suspended d && !(s.intakes.get d).entries.isEmpty

/-- The engine consumes a deck's head in SPLIT mode (R11). -/
def consumeFrame (d : Deck) (s : State) : State := match (s.intakes.get d).entries with
  | e :: rest =>
    if s.running && !s.combined && !s.suspended d then
      produce (deckPlatform d) (fineWeight e.samples (s.cal d)) e.cellFault e.badChannel
        (s.modIntake d fun i => { i with entries := rest })
    else s
  | [] => s

/-- The engine may compare the heads of a pair (R12). -/
def State.pairReady (s : State) : Bool :=
  s.running && s.combined && !s.suspended .a && !s.suspended .b && !s.intakes.a.entries.isEmpty &&
    !s.intakes.b.entries.isEmpty

/-- A deck's head is discarded as a slip (R12). -/
def slipHead (d : Deck) (s : State) : State :=
  s.modIntake d fun i =>
    { i with entries := i.entries.drop 1, counts := { i.counts with pairSlips := satSucc i.counts.pairSlips } }

/-- The engine compares the two heads in COMBINED mode (R12, R23): an equal pair is consumed, a head behind is discarded.
DEDUCED (log 11). -/
def consumePair (s : State) : State := match s.intakes.a.entries, s.intakes.b.entries with
  | ea :: ra, eb :: rb =>
    if s.running && s.combined && !s.suspended .a && !s.suspended .b then
      if ea.counter = eb.counter then
        produce .ab (fineWeight ea.samples (s.cal .a) + fineWeight eb.samples (s.cal .b))
          (ea.cellFault || eb.cellFault) (ea.badChannel || eb.badChannel)
          ((s.modIntake .a fun i => { i with entries := ra }).modIntake .b fun i => { i with entries := rb })
      else if behind ea.counter eb.counter then slipHead .a s
      else if behind eb.counter ea.counter then slipHead .b s
      else slipHead .b (slipHead .a s)
    else s
  | _, _ => s

/-- A capture timer expires (R50): the capture closes FAILED and the platform enters HOLD.
DESIGN CHOICE (log 7). -/
def captureFires (p : Platform) (s : State) : State := match (s.chains.get p).capture with
  | none => s
  | some k =>
    let why := match k.lastReason with
      | some r => CaptureReason.hold r
      | none => .noResult
    enterHold p why .positioning
      (notify .weigh "CAPTURE_FAILED" [platField p, .word (HoldReason.word why)] (cancelCapture p s))

/-! ## Zero tracking (R39, R40) -/

/-- A tracking test's conditions (R39), with the A they find. -/
def State.trackingA (s : State) (p : Platform) : Option Int :=
  let c := s.chains.get p
  match c.latest.a with
  | some a =>
    if s.settings.weigh.zeroTracking && (s.platRec p).state == .free && !s.platSuspended p && !c.pendingZero &&
        c.latest.flags.valid && c.latest.flags.stable && 0 < a.natAbs && a.natAbs ≤ 500 * s.divisionOf p then some a
    else none
  | none => none

/-- Zero tracking of one platform on a 1 s tick (R39, R40). -/
def trackZero (p : Platform) (s : State) : State := match s.trackingA p with
  | none => s
  | some a =>
    let c := s.chains.get p
    if s.withinLimit p (c.z + a) then setZero p (c.z + a) s
    else if c.zeroRange then s
    else notify .weigh "ZERO_RANGE" [platField p, .num (c.z + a - s.zRef p)] (s.modChain p fun c => { c with zeroRange := true })

/-- Zero tracking on a 1 s tick, for each platform of the current mode (R39). In SPLIT mode A is tested before B, so that A's
ZERO_RANGE (R40) joins the notice queue before B's.
DESIGN CHOICE (log 51). -/
def trackZeros (s : State) : State := (Mode.platforms s.plat.mode).foldl (fun s p => trackZero p s) s

/-! ## Requests on weighing (R18, R35, R41, R42) -/

def LinkState.word : LinkState → String
  | .absent => "ABSENT"
  | .running => "RUNNING"
  | .stale => "STALE"
  | .fault => "FAULT"

/-- The cells of a deck, G or F each, in cell order (R18), run together in one field. DESIGN CHOICE (log 48). -/
def cellsText (cells : List Cell) : Text := cells.map fun c => if c.faulted then 0x46 else 0x47

/-- The DIAG fields of a deck (R18): the cells in one field, the counters in a field each. DESIGN CHOICE (log 48). -/
def diagFields (s : State) (d : Deck) : List Field :=
  let i := s.intakes.get d
  [.word (LinkState.word i.link), .num i.stale, (match i.last with
    | some c => .num c.toNat
    | none => .empty), .num i.entries.length, yesNoLong i.refill, yesNoLong (s.suspended d),
   .text (cellsText i.cells), .num i.counts.badFrames, .num i.counts.dropped, .num i.counts.gaps, .num i.counts.pairSlips,
   .num i.counts.refills, .num i.counts.staleEvents]

/-- The diagnostic counters and READER_ERRORS cleared (R17). -/
def clearDiag (s : State) : State :=
  { ((s.modCounts .a fun _ => Counters.zero).modCounts .b fun _ => Counters.zero) with readerErrors := 0 }

def diagReply (s : State) : List Field := diagFields s .a ++ diagFields s .b ++ [.num s.readerErrors]

/-- The DIAG request (R18). -/
def diagRule (fields : List Text) (s : State) : Answer := match fields with
  | [] => accept s (diagReply s)
  | [f] => if f = ascii "CLEAR" then accept (clearDiag s) (diagReply s) else refuse .args s
  | _ => refuse .args s

/-- The names of the flags that are set, in the order of R31. -/
def Flags.names (f : Flags) : List String :=
  setNames [(f.valid, "VALID"), (f.stable, "STABLE"), (f.zeroCentre, "ZERO_CENTRE"), (f.overload, "OVERLOAD"),
    (f.underload, "UNDERLOAD"), (f.aboveMax, "ABOVE_MAX"), (f.belowMin, "BELOW_MIN"), (f.clamped, "CLAMPED"),
    (f.stale, "STALE"), (f.refill, "REFILL"), (f.uncalibrated, "UNCALIBRATED")]

/-- An optional signed number as a field. -/
def optInt (n : Option Int) : Field := match n with
  | some k => .num k
  | none => .empty

/-- The WEIGHT fields of a platform (R35). -/
def weightFields (s : State) (p : Platform) : List Field :=
  let r := (s.chains.get p).latest
  [platField p, .num r.seq, optInt r.w, optInt r.a, .num (s.divisionOf p), .num (s.maxOf p), plusField r.flags.names]

/-- The WEIGHT request (R35). -/
def weightRule (fields : List Text) (s : State) : Answer := match fields with
  | [] => accept s ((Mode.platforms s.plat.mode).flatMap (weightFields s))
  | [f] => match parseWord Platform.words f with
    | some p => if s.current p then accept s (weightFields s p) else refuse .state s
    | none => refuse .args s
  | _ => refuse .args s

/-- Checks 2 to 7 of R41: the A to add, or the refusal. -/
def zeroCheck (s : State) (p : Platform) : Except ErrCode Int :=
  let c := s.chains.get p
  if !s.current p then .error .state
  else if (s.platRec p).state != .free then .error .state
  else if s.platSuspended p || c.pendingZero then .error .busy
  else if !c.latest.flags.valid then .error .invalid
  else if !c.latest.flags.stable then .error .motion
  else match c.latest.a with
    | none => .error .invalid
    | some a => if s.withinLimit p (c.z + a) then .ok a else .error .range

/-- The ZERO request (R41, R42). -/
def zeroRule (fields : List Text) (s : State) : Answer := match fields with
  | [f] => match parseWord Platform.words f with
    | some p => match zeroCheck s p with
      | .error code => refuse code s
      | .ok a =>
        let z := (s.chains.get p).z + a
        accept (setZero p z s) [platField p, .num z, .num (z - s.zRef p), .num (s.zLimit p)]
    | none => refuse .args s
  | _ => refuse .args s

end Sys2Proof.Machine
end

