-- ==== Sys2Proof/Machine/Platforms.lean ====
section
/-! DEFINITION. Platform requests (sections 6.5 to 6.7), grants, the call timer, the sign line, CALL and QUEUE (chapter 7). -/

namespace Sys2Proof.Machine

/-! ## Events -/

/-- A grant reaches its platform (R98, R99, R129, R130): taken when the platform is grantable and the visit QUEUED, and
otherwise refused back, its mark cleared and the grant rule applied again. Without a grant in flight nothing arrives.
DEDUCED (log 10). A visit held and requeued while the grant was in flight is QUEUED, and is taken. DESIGN CHOICE (log 38). -/
def grantArrives (p : Platform) (s : State) : State := match s.alloc.flight.get p with
  | none => s
  | some id =>
    let t := { s with alloc := { s.alloc with flight := s.alloc.flight.set p none } }
    let queued := match t.visitById id with
      | some v => v.state == .queued
      | none => false
    if t.grantable p && queued then takeCall p id t
    else grantRule { t with alloc := { t.alloc with queue := unmark p t.alloc.queue } }

/-- The call timer expires (R101): taken while it runs. -/
def callFires (p : Platform) (s : State) : State := match (s.platRec p).callTimer with
  | some _ => callExpiry p s
  | none => s

/-- The sign line finishes the message it is sending (R118). -/
def signSent (s : State) : State := match s.plat.signs.sending with
  | some _ => { s with plat := { s.plat with signs := s.plat.signs.finish } }
  | none => s

/-! ## PLATFORM_RETRY, PLATFORM_RELEASE, PLATFORM_ABORT (R110 to R112) -/

/-- A held platform goes on by its resume point (R110).
DESIGN CHOICE (log 34). -/
def resumeFrom (p : Platform) (point : ResumePoint) (s : State) : State :=
  let r := s.platRec p
  match point, r.passed, r.outcome with
  | .none, _, _ => s
  | .positioning, _, _ => enterPositioning p s
  | .awaiting, _, _ => putRec p { r with state := .awaiting, holdReason := none, resume := none } s
  | .exit, false, some outcome => release p outcome s
  | .exit, false, none => putRec p { r with state := .exiting, holdReason := none, resume := none } s
  | .exit, true, _ =>
    let down := (s.bar (s.exitBar p)).state == .down
    let t := lowerReq (s.exitBar p) (putRec p { r with state := .exiting, holdReason := none, resume := none } s)
    if down then leftDeck p t else t

/-- The PLATFORM_RETRY request (R110). -/
def platformRetryRule (fields : List Text) (s : State) : Answer := match fields with
  | [f] => match parseWord Platform.words f with
    | some p =>
      let r := s.platRec p
      let point := r.resume.getD .none
      if !s.current p || r.state != .hold || s.platFaulted p || point == .none then refuse .state s
      else
        let t := resumeFrom p point s
        let st : Field := .word (PlatState.word (t.platRec p).state)
        accept (notify .platform "RESUMED" [platField p, st] t) [platField p, st]
    | none => refuse .args s
  | _ => refuse .args s

/-- What the office does with a held platform's visit (R111). -/
inductive ReleaseAction where
  | void | requeue
deriving DecidableEq, Repr

def ReleaseAction.words : List (String × ReleaseAction) := [("VOID", .void), ("REQUEUE", .requeue)]

def ReleaseAction.outcome : ReleaseAction → ExitOutcome
  | .void => .nextCleared
  | .requeue => .nextQueued

/-- A visit in QUERY or PRINT_WAIT returns to ON_DECK (R166, R169). -/
def Visit.backOnDeck (v : Visit) : Visit :=
  if v.state = .query || v.state = .printWait then { v with state := .onDeck } else v

/-- The visit unit's part in a release (R111, R166, R169).
DEDUCED (log 25). -/
def releaseVisit (a : ReleaseAction) (id : Nat) (s : State) : State := match a with
  | .void => modVisit id Visit.backOnDeck (voidVisit id s)
  | .requeue =>
    modVisit id (fun v => { (Visit.backOnDeck v).discardWeighing with net := none, zeroNet := false }) s

/-- The platform's part in a release (R111): the exit release, or FREE at once when the vehicle never came on.
DEDUCED (log 30). -/
def releasePlatform (p : Platform) (a : ReleaseAction) (point : ResumePoint) (id : Nat) (s : State) : State :=
  match point with
  | .none => visitLeftDeck id a.outcome (freePlatform p (lampOff (s.entryBar p) s))
  | .positioning => release p a.outcome s
  | .awaiting => release p a.outcome s
  | .exit => s

/-- The PLATFORM_RELEASE request (R111). -/
def platformReleaseRule (fields : List Text) (s : State) : Answer := match fields with
  | [f, g] => match parseWord Platform.words f, parseWord ReleaseAction.words g with
    | some p, some a =>
      let r := s.platRec p
      let point := r.resume.getD .none
      if !s.current p || r.state != .hold || point == .exit ||
          (point != .none && (s.bar (s.exitBar p)).state == .fault) then refuse .state s
      else match r.visit with
        | some id =>
          accept (releasePlatform p a point id (releaseVisit a id s))
            [platField p, .num id, .word (ExitOutcome.word a.outcome)]
        | none => refuse .state s
    | _, _ => refuse .args s
  | _ => refuse .args s

/-- The resume point of an abort, in the states that take one (R112). -/
def abortPoint : PlatState → Option ResumePoint
  | .entering => some .positioning
  | .positioning => some .positioning
  | .weighing => some .positioning
  | .awaiting => some .awaiting
  | .free => none
  | .calling => none
  | .exiting => none
  | .hold => none
  | .switching => none

/-- The PLATFORM_ABORT request (R112). -/
def platformAbortRule (fields : List Text) (s : State) : Answer := match fields with
  | [f] => match parseWord Platform.words f with
    | some p => match s.current p, abortPoint (s.platRec p).state with
      | true, some point => accept (enterHold p .host point (cancelCapture p s)) []
      | _, _ => refuse .state s
    | none => refuse .args s
  | _ => refuse .args s

/-! ## PLATFORM_ACCEPT, PLATFORM_MODE, PLATFORM (R113, R114, R116, R117) -/

def acceptingWords : List (String × Bool) := [("ACCEPTING", true), ("CLOSED", false)]

def acceptingField (b : Bool) : Field := .word (if b then "ACCEPTING" else "CLOSED")

/-- The deck flags after PLATFORM_ACCEPT names a platform (R113). -/
def setAccepting (p : Platform) (v : Bool) (x : PerDeck Bool) : PerDeck Bool := match p with
  | .a => { x with a := v }
  | .b => { x with b := v }
  | .ab => { a := v, b := v }

/-- The PLATFORM_ACCEPT request (R113). -/
def platformAcceptRule (fields : List Text) (s : State) : Answer := match fields with
  | [f, g] => match parseWord Platform.words f, parseWord acceptingWords g with
    | some p, some v =>
      let x := setAccepting p v s.plat.accepting
      let reply := [acceptingField x.a, acceptingField x.b]
      if x = s.plat.accepting then accept s reply
      else
        accept (notify .platform "ACCEPT" reply (judgeSigns { s with plat := { s.plat with accepting := x } })) reply
    | _, _ => refuse .args s
  | _ => refuse .args s

def deckBarriers : List Barrier := [.aN, .aS, .bN, .bS]

/-- A calibration write is in flight (check 4 of R114). -/
def State.calWriting (s : State) : Bool := s.suspended .a || s.suspended .b

/-- Checks 2 to 5 of R114. -/
def modeRefusal (s : State) (m : Mode) : Option ErrCode :=
  if !((Mode.platforms s.plat.mode).all fun p => (s.platRec p).state == .free) then some .state
  else if deckBarriers.any fun b => (s.bar b).state == .fault then some .state
  else if s.calWriting then some .busy
  else if m == .combined && !s.pairCalibrated then some .config
  else none

def modeField (m : Mode) : Field := .word (Mode.word m)

/-- The PLATFORM_MODE request (R114, R116). -/
def platformModeRule (fields : List Text) (s : State) : Answer := match fields with
  | [f] => match parseWord Mode.words f with
    | some m => match s.plat.target with
      | some t => if m = t then refuse .state s else accept (failSwitch "HOST" s) [modeField m]
      | none =>
        if m = s.plat.mode then accept s [modeField m]
        else match modeRefusal s m with
          | some code => refuse code s
          | none => accept (beginSwitch m s) [modeField m]
    | none => refuse .args s
  | _ => refuse .args s

/-- The PLATFORM fields of a platform (R117). -/
def platformFields (s : State) (p : Platform) : List Field :=
  let r := s.platRec p
  [platField p, .word (PlatState.word r.state), optNum r.visit, .word (DeckEnd.word r.entryEnd),
   acceptingField (s.acceptingOf p), yesNoLong (s.blocked p), yesNoLong (s.grantable p),
   (match r.holdReason with
     | some h => .word (HoldReason.word h)
     | none => .empty),
   (match r.resume with
     | some h => .word (ResumePoint.word h)
     | none => .empty),
   (match r.outcome with
     | some o => .word (ExitOutcome.word o)
     | none => .empty),
   secondsLeft r.callTimer]

/-- The mode, and the target mode during SWITCHING (R117, R209). -/
def modeFields (s : State) : List Field :=
  [modeField s.plat.mode, match s.plat.target with
    | some m => modeField m
    | none => .empty]

/-- The PLATFORM request (R117). -/
def platformRule (fields : List Text) (s : State) : Answer := match fields with
  | [] => accept s (modeFields s ++ (Mode.platforms s.plat.mode).flatMap (platformFields s))
  | [f] => match parseWord Platform.words f with
    | some p => if s.current p then accept s (modeFields s ++ platformFields s p) else refuse .state s
    | none => refuse .args s
  | _ => refuse .args s

/-! ## CALL and QUEUE (R133, R134) -/

/-- Checks 4 to 8 of R133. -/
def callRefusal (s : State) (v : Visit) (p : Platform) : Option ErrCode :=
  if !s.current p then some .state
  else if (s.platRec p).state != .free || s.platFaulted p || !s.atRest p then some .state
  else if s.platSuspended p then some .busy
  else if v.state != .queued || !v.entered then some .state
  else if !lengthAllows v.length p then some .state
  else none

/-- The CALL request (R133). -/
def callRule (fields : List Text) (s : State) : Answer := match fields with
  | [f, g] => match parseDec f, parseWord Platform.words g with
    | some n, some p =>
      if !inRange 1 65535 n then refuse .range s
      else match s.visitById n.toNat with
        | none => refuse .notFound s
        | some v => match callRefusal s v p with
          | some code => refuse code s
          | none => accept (takeCall p v.id s) [.num v.id, platField p]
    | _, _ => refuse .args s
  | _ => refuse .args s

def Leg.letter : Leg → Field
  | .first => .word "F"
  | .second => .word "S"

/-- The QUEUE fields of an entry at a position (R134). -/
def queueFields (s : State) (pos : Nat) (e : QueueEntry) : List Field := match s.visitById e.visit with
  | none => []
  | some v =>
    [.num pos, .num v.id, .text v.registration, .num v.cls, Leg.letter v.leg, .num (s.level v), yesNo v.entered,
     .num v.noShows,
     plusField (((Mode.platforms s.plat.mode).filter (s.eligible v)).map Platform.word)]

/-- Up to four items of a list from a position on, each reported with its position (R134, R171). -/
def pageFields {α : Type} (report : Nat → α → List Field) (start : Nat) (items : List α) : List Field :=
  (((items.drop (start - 1)).take 4).mapIdx fun k x => report (start + k) x).flatMap id

/-- The starting position a list request names (R134, R171): none means 1. -/
def startOf (fields : List Text) (held : Nat) : Except ErrCode Nat := match fields with
  | [] => .ok 1
  | [f] => match parseDec f with
    | none => .error .args
    | some n =>
      if !inRange 1 32 n then .error .range
      else if n.toNat ≤ held || n.toNat = 1 then .ok n.toNat
      else .error .range
  | _ => .error .args

/-- The QUEUE request (R134). -/
def queueRule (fields : List Text) (s : State) : Answer := match startOf fields s.alloc.queue.length with
  | .error code => refuse code s
  | .ok start => accept s (.num s.alloc.queue.length :: pageFields (queueFields s) start s.alloc.queue)

end Sys2Proof.Machine
end

