-- ==== Sys2Proof/Machine/Tables.lean ====
section
/-! DEFINITION. Requests on the vehicle and account tables (chapter 8). -/

namespace Sys2Proof.Machine

/-! ## Vehicles (R137 to R140) -/

/-- The open visit that holds the record of a slot (R136). -/
def State.holderOf (s : State) (slot : Nat) : Option Visit := s.visits.table.find? fun v => v.vehicle == some slot

/-- The record a request's tag names: its slot and contents (R137, R140). -/
def findVehicle (fields : List Text) (s : State) : Except ErrCode (Nat × Vehicle) := match fields with
  | [tag] =>
    if tagOk tag then match s.vehicleByTag tag with
      | some e => .ok e
      | none => .error .notFound
    else .error .args
  | _ => .error .args

/-- The stored-tare fields of VEHICLE_GET (R137). -/
def tareFields (t : Option StoredTare) : List Field := match t with
  | some t => [.num t.weight, .num t.number, platField t.platform, .num t.day, yesNo t.unset]
  | none => [.empty, .empty, .empty, .empty, .empty]

/-- The VEHICLE_GET fields of a record (R137). -/
def vehicleFields (s : State) (slot : Nat) (v : Vehicle) : List Field :=
  [.text v.tag, .text v.registration, .num v.account, .num v.cls, .word (Length.word v.length),
   .word (Direction.word v.direction), .num v.estimate] ++ tareFields v.tare ++
  [.num v.validity, yesNo (s.tareCurrent v), yesNo v.blocked, yesNo v.refreshTare,
   optNum ((s.holderOf slot).map (·.id))]

/-- The VEHICLE_GET request (R137). -/
def vehicleGetRule (fields : List Text) (s : State) : Answer := match findVehicle fields s with
  | .error code => refuse code s
  | .ok e => accept s (vehicleFields s e.1 e.2)

/-- The tare action of VEHICLE_PUT (R138): KEEP is true. -/
def keepWords : List (String × Bool) := [("KEEP", true), ("CLEAR", false)]

/-- What a VEHICLE_PUT of the right form asks for (check 1 of R138). -/
structure VehiclePut where
  tag : Text
  registration : Text
  account : Int
  cls : Int
  length : Length
  direction : Direction
  estimate : Int
  validity : Int
  blocked : Bool
  refresh : Bool
  keep : Bool
deriving DecidableEq, Repr

/-- Check 1 of R138. -/
def parseVehiclePut : List Text → Option VehiclePut
  | [tag, reg, acc, cls, len, dir, est, val, blk, ref, act] =>
    match parseDec acc, parseDec cls, parseWord Length.words len, parseWord Direction.words dir, parseDec est with
    | some a, some c, some l, some d, some e =>
      match parseDec val, parseWord yesNoWords blk, parseWord yesNoWords ref, parseWord keepWords act with
      | some v, some b, some r, some k =>
        if tagOk tag && registrationOk reg then
          some { tag := tag, registration := reg, account := a, cls := c, length := l, direction := d, estimate := e,
                 validity := v, blocked := b, refresh := r, keep := k }
        else none
      | _, _, _, _ => none
    | _, _, _, _, _ => none
  | _ => none

/-- Check 2 of R138. -/
def VehiclePut.inRange (q : VehiclePut) : Bool :=
  Machine.inRange 0 127 q.account && Machine.inRange 0 7 q.cls && Machine.inRange 0 60000 q.estimate &&
    Machine.inRange 1 365 q.validity

/-- Checks 2 to 5 of R138. -/
def vehiclePutRefusal (s : State) (q : VehiclePut) : Option ErrCode :=
  if !q.inRange then some .range
  else if (s.account q.account.toNat).isNone then some .notFound
  else match s.vehicleByTag q.tag with
    | some e => if (s.holderOf e.1).isSome then some .inUse else none
    | none => if s.tables.vehicles.length < 1024 then none else some .full

/-- The record a VEHICLE_PUT writes (R139), with the stored tare it is to hold. -/
def VehiclePut.record (q : VehiclePut) (tare : Option StoredTare) : Vehicle :=
  { tag := q.tag, registration := q.registration, account := q.account.toNat, cls := q.cls.toNat, length := q.length,
    direction := q.direction, estimate := q.estimate.toNat, tare := tare, validity := q.validity.toNat,
    blocked := q.blocked, refreshTare := q.refresh }

/-- A record put in a slot of the vehicle table. -/
def putVehicle (slot : Nat) (v : Vehicle) (s : State) : State :=
  { s with tables := { s.tables with vehicles := tabPut s.tables.vehicles slot v } }

/-- The VEHICLE_PUT request (R138, R139). -/
def vehiclePutRule (fields : List Text) (s : State) : Answer := match parseVehiclePut fields with
  | none => refuse .args s
  | some q => match vehiclePutRefusal s q with
    | some code => refuse code s
    | none => match s.vehicleByTag q.tag with
      | some (slot, old) =>
        let v := q.record (if q.keep then old.tare else none)
        accept (putVehicle slot v s) [.text q.tag, .word "REPLACED", yesNo v.tare.isSome]
      | none =>
        accept (putVehicle (lowestFree 0 s.tables.vehicles) (q.record none) s)
          [.text q.tag, .word "INSERTED", yesNo false]

/-- The VEHICLE_DELETE request (R140). -/
def vehicleDeleteRule (fields : List Text) (s : State) : Answer := match findVehicle fields s with
  | .error code => refuse code s
  | .ok e =>
    if (s.holderOf e.1).isSome then refuse .inUse s
    else accept { s with tables := { s.tables with vehicles := tabDrop s.tables.vehicles e.1 } } [.text e.2.tag]

/-! ## Accounts (R142 to R145) -/

/-- The account a request's number names (R142, R144, R145). -/
def findAccount (field : Text) (s : State) : Except ErrCode (Nat × Account) := match parseDec field with
  | none => .error .args
  | some n =>
    if !inRange 0 127 n then .error .range
    else match s.account n.toNat with
      | some a => .ok (n.toNat, a)
      | none => .error .notFound

def statusField (active : Bool) : Field := .word (if active then "ACTIVE" else "SUSPENDED")
def statusWords : List (String × Bool) := [("ACTIVE", true), ("SUSPENDED", false)]

def PlatMask.names (m : PlatMask) : List String := setNames [(m.a, "A"), (m.b, "B"), (m.ab, "AB")]

/-- The number of vehicle records that name an account (R142). -/
def State.accountVehicles (s : State) (n : Nat) : Nat := (s.tables.vehicles.filter fun e => e.2.account == n).length

/-- The number of open visits that carry an account (R142). -/
def State.accountVisits (s : State) (n : Nat) : Nat := (s.visits.table.filter fun v => v.account == n).length

/-- The room of an account (R142): signed, empty when the allowance is absent. -/
def Account.room (a : Account) : Field := match a.allowance with
  | some most => .num ((most : Int) - a.dayUsed - a.reserved)
  | none => .empty

/-- The ACCOUNT_GET fields (R142). -/
def accountFields (s : State) (n : Nat) (a : Account) : List Field :=
  [.num n, .text a.name, statusField a.active, optNum a.allowance, .num a.dayUsed, .num a.reserved, a.room,
   plusField a.mask.names, yesNo a.tarePermitted, .num (s.accountVehicles n), .num (s.accountVisits n)]

/-- The ACCOUNT_GET request (R142). -/
def accountGetRule (fields : List Text) (s : State) : Answer := match fields with
  | [f] => match findAccount f s with
    | .error code => refuse code s
    | .ok e => accept s (accountFields s e.1 e.2)
  | _ => refuse .args s

/-- What an ACCOUNT_PUT of the right form asks for (R143). -/
structure AccountPut where
  number : Int
  name : Text
  allowance : Option Int
  mask : PlatMask
  tarePermitted : Bool
deriving DecidableEq, Repr

/-- An allowance field: empty for absent, or a decimal number (R143). -/
def parseAllowance (t : Text) : Option (Option Int) :=
  if t.isEmpty then some none else (parseDec t).map some

/-- The form of an ACCOUNT_PUT (R143). -/
def parseAccountPut : List Text → Option AccountPut
  | [num, name, allow, mask, perm] =>
    match parseDec num, parseAllowance allow, parseMask mask, parseWord yesNoWords perm with
    | some n, some a, some m, some t =>
      if lineOk 20 name then some { number := n, name := name, allowance := a, mask := m, tarePermitted := t } else none
    | _, _, _, _ => none
  | _ => none

/-- The refusals of a well-formed ACCOUNT_PUT (R143). -/
def accountPutRefusal (q : AccountPut) : Option ErrCode :=
  let allowanceOk := match q.allowance with
    | some a => inRange 0 9999999 a
    | none => true
  if !inRange 0 127 q.number || !allowanceOk then some .range
  else if q.number = 0 && (q.allowance.isSome || q.mask != ⟨true, true, true⟩ || q.tarePermitted) then some .state
  else none

/-- An account record put under a number. -/
def putAccount (n : Nat) (a : Account) (s : State) : State :=
  { s with tables := { s.tables with accounts := tabPut s.tables.accounts n a } }

/-- The account has a queued visit (R128, R143). -/
def State.accountQueued (s : State) (n : Nat) : Bool := s.visits.table.any fun v => v.account == n && v.state == .queued

/-- The record an ACCOUNT_PUT writes over an old one, or a new one (R143). -/
def AccountPut.record (q : AccountPut) (old : Option Account) : Account :=
  let base : Account := old.getD { Account.cash with dayUsed := 0 }
  { name := q.name, active := base.active, allowance := q.allowance.map Int.toNat, dayUsed := base.dayUsed,
    reserved := base.reserved, mask := q.mask, tarePermitted := q.tarePermitted }

/-- The ACCOUNT_PUT request (R143), which applies the grant rule for an account with a queued visit (R128). -/
def accountPutRule (fields : List Text) (s : State) : Answer := match parseAccountPut fields with
  | none => refuse .args s
  | some q => match accountPutRefusal q with
    | some code => refuse code s
    | none =>
      let n := q.number.toNat
      let old := s.account n
      let t := putAccount n (q.record old) s
      accept (if t.accountQueued n then grantRule t else t)
        [.num n, .word (if old.isSome then "CHANGED" else "CREATED")]

/-- The ACCOUNT_STATUS request (R144): the form of both fields is judged before the number is.
DESIGN CHOICE (log 39). -/
def accountStatusRule (fields : List Text) (s : State) : Answer := match fields with
  | [f, g] => match parseDec f, parseWord statusWords g with
    | some _, some v => match findAccount f s with
      | .error code => refuse code s
      | .ok e =>
        if e.1 = 0 && !v then refuse .state s
        else accept (putAccount e.1 { e.2 with active := v } s) [.num e.1, statusField v]
    | _, _ => refuse .args s
  | _ => refuse .args s

/-- The ACCOUNT_DELETE request (R145). -/
def accountDeleteRule (fields : List Text) (s : State) : Answer := match fields with
  | [f] => match findAccount f s with
    | .error code => refuse code s
    | .ok e =>
      if e.1 = 0 then refuse .state s
      else if s.accountVehicles e.1 != 0 || s.accountVisits e.1 != 0 then refuse .inUse s
      else accept { s with tables := { s.tables with accounts := tabDrop s.tables.accounts e.1 } } [.num e.1]
  | _ => refuse .args s

end Sys2Proof.Machine
end

