-- ==== Sys2Proof/Machine/VisitRequests.lean ====
section
/-! DEFINITION. Requests on visits (R162, R167 to R171). -/

namespace Sys2Proof.Machine

/-- The visit an id field names (R167): the refusals are ARGS, RANGE and NOTFOUND. -/
def findVisit (field : Text) (s : State) : Except ErrCode Visit := match parseDec field with
  | none => .error .args
  | some n =>
    if !inRange 1 65535 n then .error .range
    else match s.visitById n.toNat with
      | some v => .ok v
      | none => .error .notFound

/-- The platform of the current mode a visit is bound to. -/
def State.platformOf (s : State) (id : Nat) : Option Platform :=
  (Mode.platforms s.plat.mode).find? fun p => (s.platRec p).visit == some id

/-- The ticket number of an open visit, as a field. -/
def State.ticketField (s : State) (id : Nat) : Field := optNum ((s.visitById id).bind (·.ticket))

/-! ## VISIT_RESOLVE (R162) -/

inductive ResolveAction where
  | acceptZero | reweigh | void
deriving DecidableEq, Repr

def ResolveAction.words : List (String × ResolveAction) :=
  [("ACCEPT_ZERO", .acceptZero), ("REWEIGH", .reweigh), ("VOID", .void)]

/-- A query is settled (R162). -/
def resolveVisit (a : ResolveAction) (id : Nat) (p : Platform) (s : State) : State := match a with
  | .acceptZero => complete id p (modVisit id (fun v => { v with net := some 0, zeroNet := true }) s)
  | .reweigh => returnToPositioning p (modVisit id (fun v => { v.discardWeighing with state := .onDeck }) s)
  | .void => exitRelease p .nextCleared (modVisit id Visit.backOnDeck (voidVisit id s))

/-- The reply fields of a VISIT_RESOLVE taken (R162). -/
def resolveReply (a : ResolveAction) (id : Nat) (t : State) : List Field :=
  [.num id, .word (wordOf ResolveAction.words a)] ++ match a with
    | .acceptZero => [t.ticketField id]
    | .reweigh => []
    | .void => [t.ticketField id]

/-- The VISIT_RESOLVE request (R162). -/
def visitResolveRule (fields : List Text) (s : State) : Answer := match fields with
  | [f, g] => match parseWord ResolveAction.words g with
    | none => refuse .args s
    | some a => match findVisit f s with
      | .error code => refuse code s
      | .ok v => match v.state, s.platformOf v.id with
        | .query, some p => accept (resolveVisit a v.id p s) (resolveReply a v.id (resolveVisit a v.id p s))
        | _, _ => refuse .state s
  | _ => refuse .args s

/-! ## CANCEL, HOLD_VISIT, REQUEUE (R167, R168) -/

/-- The states a CANCEL is taken in (R167). -/
def cancellable : VisitState → Bool
  | .queued => true
  | .tipping => true
  | .held => true
  | .cleared => true
  | .called => false
  | .onDeck => false
  | .query => false
  | .printWait => false

/-- A CANCEL taken (R167): the void, the queue entry, the table entry, the notice. -/
def cancelVisit (v : Visit) (s : State) : State :=
  let s1 := if v.journalled then s else voidVisit v.id s
  let s2 := if v.state = .queued then leaveQueue v.id s1 else s1
  notify .visit "CANCELLED" [.num v.id, .text v.tag] (removeVisit v.id s2)

/-- The CANCEL request (R167). -/
def cancelRule (fields : List Text) (s : State) : Answer := match fields with
  | [f] => match findVisit f s with
    | .error code => refuse code s
    | .ok v =>
      if cancellable v.state then
        accept (cancelVisit v s) [.num v.id, if v.journalled then .empty else .num s.tickets.nextTicket]
      else refuse .state s
  | _ => refuse .args s

/-- The HOLD_VISIT request (R168). -/
def holdVisitRule (fields : List Text) (s : State) : Answer := match fields with
  | [f] => match findVisit f s with
    | .error code => refuse code s
    | .ok v =>
      if v.state = .queued || v.state = .tipping then
        accept
          (notify .visit "VISIT_HELD" [.num v.id, .word "HOST"]
            (leaveQueue v.id (modVisit v.id (fun v => { v with state := .held, holdReason := some .host }) s)))
          [.num v.id]
      else refuse .state s
  | _ => refuse .args s

/-- The REQUEUE request (R168). -/
def requeueRule (fields : List Text) (s : State) : Answer := match fields with
  | [f] => match findVisit f s with
    | .error code => refuse code s
    | .ok v =>
      if v.state = .held then
        let t := enterQueued v.id (modVisit v.id (fun v => { v with holdReason := none, noShows := 0 }) s)
        accept (notify .visit "REQUEUED" [.num v.id] t) [.num v.id, .num t.alloc.queue.length]
      else refuse .state s
  | _ => refuse .args s

/-! ## VISIT and VISIT_LIST (R170, R171) -/

/-- The six fields of a weighing (R170, R177). -/
def weighingFields (w : Option WeighRec) : List Field := match w with
  | some w => [.num w.weight, .num w.number, platField w.platform, .num w.day, .num w.second, yesNo w.unset]
  | none => [.empty, .empty, .empty, .empty, .empty, .empty]

/-- The six fields of the stored tare used, its second always empty (R170). -/
def usedTareFields (t : Option StoredTare) : List Field := match t with
  | some t => [.num t.weight, .num t.number, platField t.platform, .num t.day, .empty, yesNo t.unset]
  | none => [.empty, .empty, .empty, .empty, .empty, .empty]

def optPlat (p : Option Platform) : Field := match p with
  | some p => platField p
  | none => .empty

/-- The VISIT fields (R170), in the order of section 9.1. The admission's TIME_UNSET has a Y or N field of its own.
DESIGN CHOICE (log 40). -/
def visitFields (s : State) (v : Visit) : List Field :=
  [.num v.id, .text v.tag, optNum v.vehicle, .text v.registration, .num v.account, .num v.cls, .word (Length.word v.length),
   .word (Direction.word v.direction), .word (if v.pass = .single then "SINGLE" else "TWO"), .num v.estimate,
   .word (VisitState.word v.state), .word (Leg.word v.leg)] ++ weighingFields v.first ++ weighingFields v.second ++
  usedTareFields v.tare ++
  [optNum v.net, (match v.holdReason with
     | some .noShow => .word "NO_SHOW"
     | some .host => .word "HOST"
     | none => .empty), .num v.noShows, plusField v.flagNames, optNum v.ticket, .num v.admDay, .num v.admSecond,
   yesNo v.admUnset, optPlat (s.platformOf v.id)]

/-- The VISIT request (R170). -/
def visitRule (fields : List Text) (s : State) : Answer := match fields with
  | [f] => match findVisit f s with
    | .error code => refuse code s
    | .ok v => accept s (visitFields s v)
  | _ => refuse .args s

/-- The VISIT_LIST fields of a visit at a position (R171). -/
def listFields (s : State) (pos : Nat) (v : Visit) : List Field :=
  [.num pos, .num v.id, .text v.tag, .text v.registration, .word (VisitState.word v.state), Leg.letter v.leg,
   .word (if v.pass = .single then "S" else "T"), optPlat (s.platformOf v.id), plusField v.flagNames]

/-- The VISIT_LIST request (R171). -/
def visitListRule (fields : List Text) (s : State) : Answer := match startOf fields s.visits.table.length with
  | .error code => refuse code s
  | .ok start =>
    accept s
      ([.num s.visits.table.length, .num s.unjournalled, .num s.journalFree] ++ pageFields (listFields s) start s.visits.table)

end Sys2Proof.Machine
end

