-- ==== Sys2Proof/Machine/Printing.lean ====
section
/-! DEFINITION. Printer events and the requests on the journal and the printers (chapter 10). -/

namespace Sys2Proof.Machine

def State.printer (s : State) (p : Printer) : PrinterRec := s.tickets.printers.get p

/-- The status timeout of 30 s (section 10.4). -/
def statusTimeout : Nat := 30000

/-- The last character of a ticket's text has been sent (R180): the status timer starts. -/
def textSent (p : Printer) (s : State) : State := match (s.printer p).sending with
  | some _ => s.modPrinter p fun r => { r with sending := none, statusTimer := some statusTimeout }
  | none => s

/-- The place of the head freed (R179, R181): a queue that held 4 resumes a waiting visit (R165). -/
def headLeaves (p : Printer) (s : State) : State :=
  let full := (s.printer p).queue.length == 4
  let t := s.modPrinter p fun r => { r with queue := r.queue.drop 1 }
  if full then resumePrintWait p t else t

/-- An R in PRINTING (R181): the head leaves, the printer is READY, and R180 follows. -/
def headPrinted (p : Printer) (s : State) : State :=
  startPrinting p ((headLeaves p s).modPrinter p fun r => { r with state := .ready, statusTimer := none })

/-- The status characters (section 10.4). -/
inductive StatusChar where
  | ready | busy | paper | error
deriving DecidableEq, Repr

def StatusChar.ofByte (c : Byte) : Option StatusChar :=
  if c = 0x52 then some .ready else if c = 0x42 then some .busy else if c = 0x50 then some .paper
  else if c = 0x45 then some .error else none

/-- A status character in a printer's state (R180, R181). -/
def statusChar (p : Printer) (c : StatusChar) (s : State) : State := match (s.printer p).state, c with
  | .ready, .paper => printerStop p .paperOut s
  | .ready, .error => printerStop p .offline s
  | .printing, .ready => if (s.printer p).sending.isSome then s else headPrinted p s
  | .printing, .busy =>
    if (s.printer p).sending.isSome then s else s.modPrinter p fun r => { r with statusTimer := some statusTimeout }
  | .printing, .paper => printerStop p .paperOut s
  | .printing, .error => printerStop p .offline s
  | .paperOut, .ready => printerResume p s
  | .paperOut, .error => printerStop p .offline s
  | .offline, .ready => printerResume p s
  | .offline, .paper => printerStop p .paperOut s
  | .ready, .ready => s
  | .ready, .busy => s
  | .paperOut, .busy => s
  | .paperOut, .paper => s
  | .offline, .busy => s
  | .offline, .error => s

/-- A character arrives from a printer (R181, R187): any other character, and every one in STARTING, is discarded. -/
def printerChar (p : Printer) (c : Byte) (s : State) : State :=
  if s.running then match StatusChar.ofByte c with
    | some k => statusChar p k s
    | none => s
  else s

/-- The status timer expires (R182): taken in PRINTING. -/
def statusFires (p : Printer) (s : State) : State := match (s.printer p).statusTimer, (s.printer p).state with
  | some _, .printing => printerStop p .offline s
  | _, _ => s

/-- The enquiry timer expires (R182): one ENQ is sent and the timer restarts.
DESIGN CHOICE (log 19). -/
def enquiryFires (p : Printer) (s : State) : State := match (s.printer p).enquiryTimer with
  | some _ => s.modPrinter p fun r => { r with enquiryTimer := some 5000, enqSent := r.enqSent + 1 }
  | none => s

/-! ## Requests (R177, R178, R184, R185) -/

/-- A decimal field from lo to hi: ARGS when it is no number, RANGE outside. -/
def decIn (lo hi : Int) (field : Text) : Except ErrCode Nat := match parseDec field with
  | none => .error .args
  | some n => if inRange lo hi n then .ok n.toNat else .error .range

def JournalEntry.flagNames (e : JournalEntry) : List String :=
  setNames [(e.zeroNet, "ZERO_NET"), (e.tareRefreshed, "TARE_REFRESHED"), (e.unset, "TIME_UNSET")]

/-- The JOURNAL_READ fields of an entry (R177). -/
def entryFields (e : JournalEntry) : List Field :=
  [.num e.ticket, .word (if e.kind = .void then "V" else "T"), .num e.visit, .text e.tag, .text e.registration,
   .num e.account, .word (if e.direction = .inbound then "I" else "O"), .word (if e.pass = .single then "S" else "T")] ++
  weighingFields e.first ++ weighingFields e.second ++ tareFields e.tare ++
  [optNum e.net, plusField e.flagNames, .num e.calCounter, .num e.day, .num e.secondOfDay]

/-- The JOURNAL_READ request (R177). -/
def journalReadRule (fields : List Text) (s : State) : Answer := match fields with
  | [f] => match decIn 0 (s.tickets.journal.length - 1 : Int) f with
    | .error code => refuse code s
    | .ok k => match s.tickets.journal[k]? with
      | some e => accept s (.num s.tickets.journal.length :: entryFields e)
      | none => refuse .range s
  | _ => refuse .args s

/-- The JOURNAL_RELEASE request (R178). -/
def journalReleaseRule (fields : List Text) (s : State) : Answer := match fields with
  | [f] => match decIn 1 s.tickets.journal.length f with
    | .error code => refuse code s
    | .ok n =>
      let rest := s.tickets.journal.drop n
      accept { s with tickets := { s.tickets with journal := rest } }
        [.num rest.length, optNum (rest.head?.map (·.ticket))]
  | _ => refuse .args s

/-- The suppression of a printer set to a value that is not in force (R184). -/
def setSuppress (p : Printer) (on : Bool) (s : State) : State :=
  let t := notify .system "SUPPRESS" [.word (Printer.word p), onOff on] (s.modPrinter p fun r => { r with suppressed := on })
  if on then resumePrintWait p t else t

/-- The PRINT_SUPPRESS request (R184). -/
def printSuppressRule (fields : List Text) (s : State) : Answer := match fields with
  | [f, g] => match parseWord Printer.words f, parseWord onOffWords g with
    | some p, some on =>
      accept (if (s.printer p).suppressed = on then s else setSuppress p on s) [.word (Printer.word p), onOff on]
    | _, _ => refuse .args s
  | _ => refuse .args s

/-- The REPRINT request (R185). -/
def reprintRule (fields : List Text) (s : State) : Answer := match fields with
  | [f, g] => match parseWord Printer.words g with
    | none => refuse .args s
    | some p => match decIn 1 999999 f with
      | .error code => refuse code s
      | .ok n => match s.tickets.journal.find? fun e => e.ticket == n with
        | none => refuse .notFound s
        | some e =>
          if (s.printer p).queue.length < 4 then
            accept (queueTicket p e true s) [.num n, .word (Printer.word p), .num ((s.printer p).queue.length + 1 : Nat)]
          else refuse .full s
  | _ => refuse .args s

end Sys2Proof.Machine
end

