-- ==== Sys2Proof/Machine/SettingsUnit.lean ====
section
/-! DEFINITION. The settings memory and its loader (chapter 13): the map, the judgements, reading, writing, completion. -/

namespace Sys2Proof.Machine

/-! ## Numbers in memory (section 13.6) -/

/-- The low bytes of a number, most significant first. -/
def beBytes : Nat → Nat → List Byte
  | 0, _ => []
  | n + 1, v => BitVec.ofNat 8 (v / 256 ^ n) :: beBytes n v

/-- A signed number in two's complement. -/
def beSigned (n : Nat) (v : Int) : List Byte := beBytes n (v % (256 ^ n : Nat)).toNat

/-- The number bytes hold, most significant first. -/
def ofBytes (bs : List Byte) : Nat := bs.foldl (fun acc b => acc * 256 + b.toNat) 0

/-- The signed number bytes hold. -/
def ofSigned (bs : List Byte) : Int :=
  let v := ofBytes bs
  if v * 2 < 256 ^ bs.length then v else (v : Int) - (256 ^ bs.length : Nat)

/-- The number at an address of the memory. -/
def memNat (m : List Host.Cell) (a n : Nat) : Nat := ofBytes (memReadAll m a n)

/-! ## Field kinds (R211, R213) -/

/-- What a numeric field may hold: a number from lo to hi, or one of a set of choices. -/
inductive FieldKind where
  | range (lo hi : Nat)
  | choice (vals : List Nat) (standard : Nat)
deriving DecidableEq, Repr

/-- A numeric field: its bytes in the memory, and what it may hold. -/
structure FieldSpec where
  size : Nat
  kind : FieldKind
deriving DecidableEq, Repr

def FieldKind.ok (k : FieldKind) (v : Nat) : Bool := match k with
  | .range lo hi => lo ≤ v && v ≤ hi
  | .choice vals _ => vals.contains v

/-- CLAMPED (R211): a number takes the nearer end, a choice its default. -/
def FieldKind.clamp (k : FieldKind) (v : Nat) : Nat := match k with
  | .range lo hi => if v < lo then lo else if hi < v then hi else v
  | .choice vals standard => if vals.contains v then v else standard

/-- A choice of 0 or 1. -/
def switchKind (standard : Nat) : FieldKind := .choice [0, 1] standard

/-- Section 3: N, M, band, zero tracking, frame timeout, stale-to-fault, fault and clear thresholds, capture timeout. -/
def weighSpecs : List FieldSpec :=
  [⟨1, .choice [1, 2, 4, 8, 16, 32] 8⟩, ⟨1, .range 4 32⟩, ⟨1, .range 1 30⟩, ⟨1, switchKind 1⟩, ⟨2, .range 20 1000⟩,
   ⟨1, .range 1 50⟩, ⟨1, .range 1 255⟩, ⟨1, .range 1 255⟩, ⟨1, .range 5 120⟩]

/-- Section 4: five times, and the polarity and debounce time of each input. -/
def yardSpecs : List FieldSpec :=
  [⟨2, .range 30 600⟩, ⟨1, .range 5 120⟩, ⟨1, .range 2 20⟩, ⟨1, .range 2 60⟩, ⟨1, .range 1 5⟩] ++
  InputId.all.flatMap fun i =>
    [⟨1, switchKind (if (InputSet.builtIn i.line).activeLow then 1 else 0)⟩, ⟨1, .range 0 250⟩]

/-- Section 5: entry ends of A, B and AB, levels of classes 0 to 7, default mode. -/
def platSpecs : List FieldSpec :=
  [⟨1, switchKind 1⟩, ⟨1, switchKind 0⟩, ⟨1, switchKind 0⟩] ++ List.replicate 8 ⟨1, .range 0 3⟩ ++ [⟨1, switchKind 0⟩]

/-- Section 6, its numeric fields: the rate and the site number. -/
def rateKind : FieldKind := .choice [0, 1, 2, 3, 4] 1
def siteKind : FieldKind := .range 0 9999

/-- Section 7: the offline policy. -/
def policySpecs : List FieldSpec := [⟨1, switchKind 0⟩]

/-! ## Values of the sections as numbers (section 13.6) -/

def boolNum (b : Bool) : Nat := if b then 1 else 0

def weighNums (w : WeighSet) : List Nat :=
  [w.n, w.m, w.band, boolNum w.zeroTracking, w.frameTimeout, w.staleToFault, w.faultThreshold, w.clearThreshold,
   w.captureTimeout]

def weighOf : List Nat → WeighSet
  | [n, m, b, z, f, s, ft, ct, c] =>
    { n := n, m := m, band := b, zeroTracking := z == 1, frameTimeout := f, staleToFault := s, faultThreshold := ft,
      clearThreshold := ct, captureTimeout := c }
  | _ => WeighSet.builtIn

def yardNums (y : YardSet) : List Nat :=
  [y.callTimeout, y.gateHold, y.travelLimit, y.repeatHold, y.noShowLimit] ++
  InputId.all.flatMap fun i => [boolNum (y.inputs.input i).activeLow, (y.inputs.input i).debounce]

/-- Input settings taken in order from numbers. -/
def inputsOf : List InputId → List Nat → PerBarrier (PerLine InputSet) → PerBarrier (PerLine InputSet)
  | i :: is, p :: d :: rest, x => inputsOf is rest (x.setInput i { activeLow := p == 1, debounce := d })
  | _, _, x => x

def yardOf : List Nat → YardSet
  | c :: g :: t :: r :: n :: rest =>
    { callTimeout := c, gateHold := g, travelLimit := t, repeatHold := r, noShowLimit := n,
      inputs := inputsOf InputId.all rest YardSet.builtIn.inputs }
  | _ => YardSet.builtIn

def endNum : DeckEnd → Nat
  | .north => 0
  | .south => 1

def endOf (n : Nat) : DeckEnd := if n = 0 then .north else .south

def platNums (p : PlatSet) : List Nat :=
  [endNum p.ends.a, endNum p.ends.b, endNum p.ends.ab] ++ p.levels ++ [boolNum (p.defaultMode == .combined)]

def platOf : List Nat → PlatSet
  | [a, b, ab, l0, l1, l2, l3, l4, l5, l6, l7, m] =>
    { ends := { a := endOf a, b := endOf b, ab := endOf ab }, levels := [l0, l1, l2, l3, l4, l5, l6, l7],
      defaultMode := if m = 1 then .combined else .split }
  | _ => PlatSet.builtIn

def policyNums (p : Policy) : List Nat := [boolNum (p == .acceptZero)]

def policyOf : List Nat → Policy
  | [1] => .acceptZero
  | _ => .hold

/-! ## The memory map (section 13.6) -/

/-- The address of a section, which is that of its accept word. -/
def sectionBase : Nat → Nat
  | 1 => 0x040
  | 2 => 0x080
  | 3 => 0x0C0
  | 4 => 0x100
  | 5 => 0x180
  | 6 => 0x1C0
  | _ => 0x240

/-- Runs of bytes, each with the address it starts at. -/
abbrev Chunks := List (Nat × List Byte)

/-- Numeric fields laid out by their sizes. -/
def layNums : List FieldSpec → List Nat → List Byte
  | f :: fs, v :: vs => beBytes f.size v ++ layNums fs vs
  | _, _ => []

/-- A header line padded with spaces to 32 characters. -/
def padLine (t : Text) : List Byte := t ++ List.replicate (32 - t.length) 0x20

/-- The bytes of a calibration section's fields: those of the first n cells alone. -/
def calChunks (base : Nat) (c : Calib) : Chunks :=
  [(base + 2, [BitVec.ofNat 8 c.n]), (base + 3, c.offsets.flatMap (beSigned 3)), (base + 27, c.trims.flatMap (beBytes 3)),
   (base + 51, beBytes 3 c.span ++ beSigned 4 c.zCal ++ beBytes 4 c.max ++ beBytes 1 c.d)]

/-- The bytes of a section's fields (step 4 of R214). -/
def SectionVals.chunks (v : SectionVals) : Chunks :=
  let base := sectionBase v.number
  match v with
  | .cal _ c => calChunks base c
  | .weigh w => [(base + 2, layNums weighSpecs (weighNums w))]
  | .yard y => [(base + 2, layNums yardSpecs (yardNums y))]
  | .plat p => [(base + 2, layNums platSpecs (platNums p))]
  | .ticket t => [(base + 2, BitVec.ofNat 8 t.rate :: padLine t.header1 ++ padLine t.header2 ++ beBytes 2 t.site)]
  | .policy p => [(base + 2, layNums policySpecs (policyNums p))]

/-- The bytes a transfer of a write changes (R214), in a memory that holds the counter.
DEDUCED (log 16). -/
def stepChunks (m : List Host.Cell) (w : Write) : Chunks := match w.step with
  | .header => [(0, [0x56, 0x59, 0x00, 0x01])]
  | .clearAccept => [(sectionBase w.vals.number, [0x00, 0x00])]
  | .counter => [(4, beBytes 2 (memNat m 4 2 + 1))]
  | .fields => w.vals.chunks
  | .setAccept => [(sectionBase w.vals.number, [0xC3, 0x5A])]

/-- The memory with runs of bytes written. -/
def writeChunks (m : List Host.Cell) (cs : Chunks) : List Host.Cell := cs.foldl (fun m c => memWriteAll m c.1 c.2) m

/-- Free bytes for the addresses of a run (log 4). -/
def freeRun (draw a : Nat) : Nat → List Byte
  | 0 => []
  | n + 1 => Config.freeByte draw a :: freeRun draw (a + 1) n

/-- A transfer that was not acknowledged leaves free bytes (log 4), with two bounds of R214: at step 3 the counter holds its old
value or the next one, since a write adds at most one to it, and at step 5 the accept word stays cleared. -/
def spoilChunks (draw : Nat) (m : List Host.Cell) (w : Write) : List Host.Cell := match w.step with
  | .setAccept => m
  | .header => writeChunks m ((stepChunks m w).map fun c => (c.1, freeRun draw c.1 c.2.length))
  | .clearAccept => writeChunks m ((stepChunks m w).map fun c => (c.1, freeRun draw c.1 c.2.length))
  | .counter => if Config.counterTaken draw then writeChunks m (stepChunks m w) else m
  | .fields => writeChunks m ((stepChunks m w).map fun c => (c.1, freeRun draw c.1 c.2.length))

/-! ## Judging at load (R211) -/

/-- Numeric fields read from the memory. -/
def readNums (m : List Host.Cell) : Nat → List FieldSpec → List Nat
  | _, [] => []
  | a, f :: fs => memNat m a f.size :: readNums m (a + f.size) fs

/-- Every field holds what it may. -/
def numsOk : List FieldSpec → List Nat → Bool
  | f :: fs, v :: vs => f.kind.ok v && numsOk fs vs
  | [], [] => true
  | _, _ => false

def clampNums : List FieldSpec → List Nat → List Nat
  | f :: fs, v :: vs => f.kind.clamp v :: clampNums fs vs
  | _, _ => []

def numsStatus (fs : List FieldSpec) (vs : List Nat) : SectionStatus := if numsOk fs vs then .accepted else .clamped

/-- A calibration set within its ranges (R20, R211, R213). -/
def Calib.ok (c : Calib) : Bool :=
  2 ≤ c.n && c.n ≤ 8 && c.offsets.length == c.n && c.trims.length == c.n &&
  (c.offsets.all fun o => -8388608 ≤ o && o ≤ 8388607) && (c.trims.all fun t => 49152 ≤ t && t ≤ 81920) &&
  1 ≤ c.span && c.span ≤ 16777215 && -999999999 ≤ c.zCal && c.zCal ≤ 999999999 &&
  1000 ≤ c.max && c.max ≤ 80000 && [5, 10, 20, 50].contains c.d && c.max ≤ 10000 * c.d

/-- A calibration section as read: the first n cells alone. -/
def readCal (m : List Host.Cell) (base : Nat) : Calib :=
  let n := memNat m (base + 2) 1
  { n := n,
    offsets := (List.range n).map fun i => ofSigned (memReadAll m (base + 3 + 3 * i) 3),
    trims := (List.range n).map fun i => memNat m (base + 27 + 3 * i) 3,
    span := memNat m (base + 51) 3, zCal := ofSigned (memReadAll m (base + 54) 4), max := memNat m (base + 58) 4,
    d := memNat m (base + 62) 1 }

/-- A header line as read: its padding left off (log 17). -/
def stripLine (t : Text) : Text := (t.reverse.dropWhile fun c => c == 0x20).reverse

/-- The header is readable and good (R211). -/
def headerGood (u : Unacked) (m : List Host.Cell) : Bool := !u.header && memNat m 0 2 == 0x5659 && memNat m 2 2 == 1

/-- A section is readable with its accept word set, under a good header (R211). -/
def sectionGood (u : Unacked) (m : List Host.Cell) (n : Nat) : Bool :=
  headerGood u m && !u.sections.contains n && memNat m (sectionBase n) 2 == 0xC35A

/-- A calibration section judged: accepted, or the built-in set (R211, R20). -/
def loadCal (u : Unacked) (m : List Host.Cell) (n : Nat) : Calib × SectionStatus :=
  let c := readCal m (sectionBase n)
  if sectionGood u m n && c.ok then (c, .accepted) else (Calib.builtIn, .defaulted)

/-- A numeric section judged (R211). -/
def loadNums {α : Type} (u : Unacked) (m : List Host.Cell) (n : Nat) (fs : List FieldSpec) (of : List Nat → α) (builtIn : α) :
    α × SectionStatus :=
  if sectionGood u m n then
    let vs := readNums m (sectionBase n + 2) fs
    (of (clampNums fs vs), numsStatus fs vs)
  else (builtIn, .defaulted)

/-- Section 6 judged (R211): by its rate and its site number, with the header lines used as read.
DESIGN CHOICE (log 46). -/
def loadTicket (u : Unacked) (m : List Host.Cell) : TicketSet × SectionStatus :=
  let base := sectionBase 6
  if sectionGood u m 6 then
    let rate := memNat m (base + 2) 1
    let site := memNat m (base + 67) 2
    ({ rate := rateKind.clamp rate, header1 := stripLine (memReadAll m (base + 3) 32),
       header2 := stripLine (memReadAll m (base + 35) 32), site := siteKind.clamp site },
     if rateKind.ok rate && siteKind.ok site then .accepted else .clamped)
  else (TicketSet.builtIn, .defaulted)

/-- The load of R211: the live settings, the statuses, the counter's copy. -/
def loadSettings (u : Unacked) (m : List Host.Cell) : Settings :=
  let a := loadCal u m 1
  let b := loadCal u m 2
  let w := loadNums u m 3 weighSpecs weighOf WeighSet.builtIn
  let y := loadNums u m 4 yardSpecs yardOf YardSet.builtIn
  let p := loadNums u m 5 platSpecs platOf PlatSet.builtIn
  let t := loadTicket u m
  let o := loadNums u m 7 policySpecs policyOf Policy.hold
  { cal := { a := a.1, b := b.1 }, weigh := w.1, yard := y.1, plat := p.1, ticket := t.1, policy := o.1,
    status := ⟨a.2, b.2, w.2, y.2, p.2, t.2, o.2⟩, counter := if u.header then 0 else memNat m 4 2,
    headerBad := !headerGood u m, write := none, mem := m }

/-! ## SETTINGS_READ (R212) -/

/-- The contents of a section as live (R212). -/
def State.liveSection (s : State) : Nat → SectionVals
  | 1 => .cal .a s.settings.cal.a
  | 2 => .cal .b s.settings.cal.b
  | 3 => .weigh s.settings.weigh
  | 4 => .yard s.settings.yard
  | 5 => .plat s.settings.plat
  | 6 => .ticket s.settings.ticket
  | _ => .policy s.settings.policy

def numFields (ns : List Nat) : List Field := ns.map fun n => .num n

/-- The fields of a section in the order of section 13.6 (R212). -/
def SectionVals.fields : SectionVals → List Field
  | .cal _ c =>
    (.num c.n :: c.offsets.map fun o => Field.num o) ++ numFields c.trims ++ [.num c.span, .num c.zCal, .num c.max, .num c.d]
  | .weigh w => numFields (weighNums w)
  | .yard y => numFields (yardNums y)
  | .plat p => numFields (platNums p)
  | .ticket t => [.num t.rate, .text t.header1, .text t.header2, .num t.site]
  | .policy p => numFields (policyNums p)

/-- A status letter; a section being written is reported W (R209, R212). -/
def State.statusLetter (s : State) (n : Nat) : Field :=
  let writing := match s.settings.write with
    | some w => w.vals.number == n
    | none => false
  if writing then .word "W"
  else match s.settings.status.get n with
    | .accepted => .word "A"
    | .defaulted => .word "D"
    | .clamped => .word "C"

/-- The SETTINGS_READ request (R212). -/
def settingsReadRule (fields : List Text) (s : State) : Answer := match fields with
  | [f] => match decIn 1 7 f with
    | .error code => refuse code s
    | .ok n => accept s (.num n :: s.statusLetter n :: (s.liveSection n).fields)
  | _ => refuse .args s

/-! ## SETTINGS_WRITE (R213) -/

/-- Decimal numbers, all of them. -/
def parseDecs : List Text → Option (List Int)
  | [] => some []
  | t :: ts => match parseDec t, parseDecs ts with
    | some n, some ns => some (n :: ns)
    | _, _ => none

/-- The numbers of a numeric section, when each is in range (check 2 of R213). -/
def intsOk : List FieldSpec → List Int → Bool
  | f :: fs, v :: vs => 0 ≤ v && f.kind.ok v.toNat && intsOk fs vs
  | [], [] => true
  | _, _ => false

/-- A numeric section's fields: ARGS for a wrong count or form, RANGE outside (checks 1 and 2 of R213). -/
def parseNums (fs : List FieldSpec) (fields : List Text) : Except ErrCode (List Nat) := match parseDecs fields with
  | none => .error .args
  | some vs =>
    if vs.length = fs.length then (if intsOk fs vs then .ok (vs.map Int.toNat) else .error .range) else .error .args

/-- The calibration set of numbers in the order of section 13.6, with a cell count of n. -/
def calOfInts (n : Nat) (vs : List Int) : Calib :=
  { n := n, offsets := (vs.drop 1).take n, trims := ((vs.drop (n + 1)).take n).map Int.toNat,
    span := (vs.getD (2 * n + 1) 0).toNat, zCal := vs.getD (2 * n + 2) 0, max := (vs.getD (2 * n + 3) 0).toNat,
    d := (vs.getD (2 * n + 4) 0).toNat }

/-- A calibration section's fields (checks 1 and 2 of R213): a negative trim, span, capacity or division becomes 0, which is out
of its range. -/
def parseCal (fields : List Text) : Except ErrCode Calib := match parseDecs fields with
  | some (n :: rest) =>
    if ((n :: rest).length : Int) = 2 * n + 5 then
      (if inRange 2 8 n && (calOfInts n.toNat (n :: rest)).ok then .ok (calOfInts n.toNat (n :: rest)) else .error .range)
    else .error .args
  | _ => .error .args

/-- Section 6's fields (checks 1 and 2 of R213). -/
def parseTicket : List Text → Except ErrCode TicketSet
  | [rate, h1, h2, site] => match parseDec rate, parseDec site with
    | some r, some n =>
      if lineOk 32 h1 && lineOk 32 h2 then
        (if 0 ≤ r && rateKind.ok r.toNat && 0 ≤ n && siteKind.ok n.toNat then
          .ok { rate := r.toNat, header1 := h1, header2 := h2, site := n.toNat }
        else .error .range)
      else .error .args
    | _, _ => .error .args
  | _ => .error .args

/-- A section's fields (checks 1 and 2 of R213). -/
def parseSection (n : Nat) (fields : List Text) : Except ErrCode SectionVals := match n with
  | 1 => (parseCal fields).map (SectionVals.cal .a)
  | 2 => (parseCal fields).map (SectionVals.cal .b)
  | 3 => (parseNums weighSpecs fields).map fun vs => .weigh (weighOf vs)
  | 4 => (parseNums yardSpecs fields).map fun vs => .yard (yardOf vs)
  | 5 => (parseNums platSpecs fields).map fun vs => .plat (platOf vs)
  | 6 => (parseTicket fields).map SectionVals.ticket
  | _ => (parseNums policySpecs fields).map fun vs => .policy (policyOf vs)

/-- Check 4 of R213: a calibration write needs its platform FREE. -/
def State.calFree (s : State) : SectionVals → Bool
  | .cal d _ => (s.platRec (s.userOfDeck d)).state == .free
  | .weigh _ => true
  | .yard _ => true
  | .plat _ => true
  | .ticket _ => true
  | .policy _ => true

/-- The time a transfer has to be acknowledged, in ms (R214). -/
def transferTimeout : Nat := 20

/-- A write is taken (R213, R214): its first transfer awaits its acknowledgement. -/
def startWrite (v : SectionVals) (s : State) : State :=
  { s with settings := { s.settings with
      write := some { vals := v, step := if s.settings.headerBad then .header else .clearAccept, timer := transferTimeout } } }

/-- The SETTINGS_WRITE request (R213).
DEDUCED (log 33). -/
def settingsWriteRule (fields : List Text) (s : State) : Answer := match fields with
  | [] => refuse .args s
  | f :: rest => match decIn 1 7 f with
    | .error code => refuse code s
    | .ok n => match parseSection n rest with
      | .error code => refuse code s
      | .ok v =>
        if s.settings.write.isSome then refuse .busy s
        else if s.calFree v then accept (startWrite v s) [.num n]
        else refuse .state s

/-! ## Transfers (R214) -/

def WriteStep.number : WriteStep → Nat
  | .header => 1
  | .clearAccept => 2
  | .counter => 3
  | .fields => 4
  | .setAccept => 5

/-- The step after an acknowledged one (R214): step 3 belongs to a calibration section, and a counter at 65,535 skips it. -/
def nextStep (m : List Host.Cell) (v : SectionVals) : WriteStep → WriteStep
  | .header => .clearAccept
  | .clearAccept => match v with
    | .cal _ _ => if memNat m 4 2 < 65535 then .counter else .fields
    | .weigh _ => .fields
    | .yard _ => .fields
    | .plat _ => .fields
    | .ticket _ => .fields
    | .policy _ => .fields
  | .counter => .fields
  | .fields => .setAccept
  | .setAccept => .setAccept

/-- The end of a suspension (R16): the filter of the platform that uses the deck restarts. -/
def endSuspension (v : SectionVals) (s : State) : State := match v with
  | .cal d _ => restartFilter (s.userOfDeck d) s
  | .weigh _ => s
  | .yard _ => s
  | .plat _ => s
  | .ticket _ => s
  | .policy _ => s

/-- A completed calibration write (R16, R20, R44). -/
def applyCal (d : Deck) (c : Calib) (s : State) : State :=
  let flush := (s.cal d).n != c.n
  let s1 := { s with settings := { s.settings with cal := s.settings.cal.set d c } }
  let s2 := s1.modIntake d fun i =>
    { i with entries := if flush then [] else i.entries, cells := List.replicate c.n Cell.fresh }
  let s3 := setZero (deckPlatform d) c.zCal s2
  setZero .ab (s3.chains.a.z + s3.chains.b.z) s3

/-- A FREE platform's record takes the settings' entry end (R94). -/
def PlatRec.takeEnd (e : DeckEnd) (r : PlatRec) : PlatRec := if r.state = .free then { r with entryEnd := e } else r

/-- A completed write of section 5 (R94, R128). -/
def applyPlat (p : PlatSet) (s : State) : State :=
  let r := s.plat.recs
  grantRule
    { s with
      settings := { s.settings with plat := p },
      plat := { s.plat with recs :=
        { a := r.a.takeEnd p.ends.a, b := r.b.takeEnd p.ends.b, ab := r.ab.takeEnd p.ends.ab } } }

/-- The new values of a section become live, and each block takes them (R214). -/
def applySection (v : SectionVals) (s : State) : State := match v with
  | .cal d c => applyCal d c s
  | .weigh w => restartFilters { s with settings := { s.settings with weigh := w } }
  | .yard y => applyYard y s
  | .plat p => applyPlat p s
  | .ticket t => { s with settings := { s.settings with ticket := t } }
  | .policy p => { s with settings := { s.settings with policy := p } }

/-- The write in flight ends. -/
def endWrite (s : State) : State := { s with settings := { s.settings with write := none } }

/-- The acknowledgement of step 5 completes the write (R214). -/
def completeWrite (v : SectionVals) (s : State) : State :=
  let n := v.number
  let s1 := endWrite { s with settings := { s.settings with status := s.settings.status.set n .accepted } }
  notify .system "SETTINGS_WRITTEN" [.num n, .num s.settings.counter] (endSuspension v (applySection v s1))

/-- What the loader notes of an acknowledged transfer: a fresh header, the counter's copy (R214). -/
def noteAck (w : Write) (s : State) : State := match w.step with
  | .header => { s with settings := { s.settings with headerBad := false } }
  | .counter => { s with settings := { s.settings with counter := memNat s.settings.mem 4 2 } }
  | .clearAccept => s
  | .fields => s
  | .setAccept => s

/-- The memory acknowledges a transfer (R214): its bytes are in the memory, and the write goes on or completes.
DESIGN CHOICE (log 7). -/
def transferAck (s : State) : State := match s.settings.write with
  | none => s
  | some w =>
    let s1 := noteAck w { s with settings := { s.settings with mem := writeChunks s.settings.mem (stepChunks s.settings.mem w) } }
    if w.step = .setAccept then completeWrite w.vals s1
    else
      { s1 with settings := { s1.settings with
          write := some { w with step := nextStep s1.settings.mem w.vals w.step, timer := transferTimeout } } }

/-- The write in flight is given up with its transfer unacknowledged: the transfer's bytes are free (log 4). -/
def spoilWrite (s : State) : State := match s.settings.write with
  | none => s
  | some w =>
    endWrite { s with
      settings := { s.settings with mem := spoilChunks s.freeCount s.settings.mem w }, freeCount := s.freeCount + 1 }

/-- A transfer is not acknowledged in time (R214): the write fails at once. -/
def transferTimeoutFires (s : State) : State := match s.settings.write with
  | none => s
  | some w =>
    notify .system "SETTINGS_FAILED" [.num w.vals.number, .word "STORE", .num w.step.number] (endSuspension w.vals (spoilWrite s))

end Sys2Proof.Machine
end

