-- ==== Sys2Proof/Machine/Clock.lean ====
section
/-! DEFINITION. The day clock and the link silence timer (chapter 11), notice classes and STATUS (chapter 12), RESTART. -/

namespace Sys2Proof.Machine

/-! ## The day clock (R189 to R192) -/

/-- A rollover to a day (R149, R190, R192). -/
def rollover (day : Nat) (cause : String) (s : State) : State :=
  let t := rolloverAccounts s
  notify .system "ROLLOVER" [.num day, .word cause] { t with time := { t.time with lastValid := some day } }

/-- The day after a day (R190): 65,535 is followed by 0. -/
def nextDay (n : Nat) : Nat := if n < 65535 then n + 1 else 0

/-- The day clock on a 1 s tick (R190). -/
def advanceClock (s : State) : State :=
  if s.time.second < 86399 then { s with time := { s.time with second := s.time.second + 1 } }
  else
    let t := { s with time := { s.time with second := 0, day := nextDay s.time.day } }
    if s.time.valid then rollover t.time.day "CLOCK" t else t

/-- A 1 s tick (R189): the sub-second divider back at 0, the day clock, zero tracking. None is issued in STARTING (R194).
ROLLOVER comes before ZERO_RANGE. DESIGN CHOICE (log 12). -/
def secondTick (s : State) : State :=
  if s.running then trackZeros (advanceClock { s with time := { s.time with subMs := 0 } }) else s

/-- Whether a TIME_SET naming a day is a rollover (step 4 of R192). -/
def State.setRollsOver (s : State) (day : Nat) : Bool :=
  if s.time.valid then day != s.time.day
  else match s.time.lastValid with
    | some d => day != d
    | none => true

/-- A TIME_SET taken (R192). -/
def setTime (day second : Nat) (s : State) : State :=
  let t := { s with time := { s.time with day := day, second := second, subMs := 0, valid := true } }
  let u := if s.setRollsOver day then rollover day "TIME_SET" t else t
  { u with time := { u.time with lastValid := some day } }

/-- The TIME_SET request (R192). -/
def timeSetRule (fields : List Text) (s : State) : Answer := match fields with
  | [f, g] => match parseDec f, parseDec g with
    | some d, some n =>
      if inRange 0 65535 d && inRange 0 86399 n then
        accept (setTime d.toNat n.toNat s)
          [.num d, .num n, .word (if s.setRollsOver d.toNat then "ROLLOVER" else "NONE")]
      else refuse .range s
    | _, _ => refuse .args s
  | _ => refuse .args s

/-! ## The link silence timer (R195 to R197) -/

/-- The watch armed with a period, or its period shortened or resent (R195). The silence timer runs in ONLINE alone (section
11.3), so a LINK_WATCH taken from the pending slot after its part has gone OFFLINE leaves it stopped.
DEDUCED (log 43). -/
def armWatch (p : Nat) (s : State) : State :=
  let t := { s with watch := { s.watch with
    period := some p, timer := if s.watch.online then some (p * 1000) else none } }
  if s.watch.period = some p then t else notify .system "WATCH" [.num p] t

/-- The LINK_WATCH request (R195). -/
def linkWatchRule (fields : List Text) (s : State) : Answer := match fields with
  | [f] => match decIn 5 300 f with
    | .error code => refuse code s
    | .ok p => match s.watch.period with
      | none => accept (armWatch p s) [.num p]
      | some q => if p ≤ q then accept (armWatch p s) [.num p] else refuse .state s
  | _ => refuse .args s

/-- The latch of a class when the part goes OFFLINE (R196). -/
def ClassRec.latchIfEnabled (r : ClassRec) : ClassRec := { r with latched := r.latched || r.enabled }

/-- Every enabled class is latched (R196). -/
def PerClass.latchAll (x : PerClass) : PerClass :=
  { gate := x.gate.latchIfEnabled, platform := x.platform.latchIfEnabled, weigh := x.weigh.latchIfEnabled,
    visit := x.visit.latchIfEnabled, system := x.system.latchIfEnabled }

/-- WAIT_HOST ends because the part has gone OFFLINE (R86). -/
def endWaitOffline (s : State) : State := match (s.gate .entry).state with
  | .waitHost => refusedNotice .entry ((s.gate .entry).pendingTag.getD []) "UNKNOWN" (closeGate .entry s)
  | .closed => s
  | .opened => s

/-- The part goes OFFLINE (R196). -/
def goOffline (s : State) : State :=
  endWaitOffline
    { s with
      watch := { s.watch with online := false, timer := none, offlineMs := 0 },
      link := { s.link with notices := [], classes := s.link.classes.latchAll } }

/-- The silence timer expires (R196): taken while it runs, ARMED and ONLINE. -/
def silenceFires (s : State) : State := match s.watch.timer with
  | some _ => if s.watch.online then goOffline s else s
  | none => s

def classField (c : NoticeClass) : Field := .word (NoticeClass.word c)

def NoticeClass.all : List NoticeClass := [.gate, .platform, .weigh, .visit, .system]

/-- A LATCHED notice for a class joins the queue and clears the latch (R197, R208), when the class is enabled, its latch set and
the queue has room.
DEDUCED (log 35). It does so whatever the link mode, so also for a NOTICE_ENABLE taken from the pending slot after the part has
gone OFFLINE. DESIGN CHOICE (log 52). -/
def collectLatch (c : NoticeClass) (s : State) : State :=
  let r := s.link.classes.get c
  if r.enabled && r.latched && s.link.notices.length < 16 then
    { s with link := { s.link with
        notices := s.link.notices ++ [⟨"LATCHED", [classField c]⟩],
        classes := s.link.classes.set c { r with latched := false } } }
  else s

/-- The part comes back ONLINE (R197).
DEDUCED (log 14). -/
def goOnline (s : State) : State :=
  let t := { s with watch := { s.watch with online := true, timer := s.watch.period.map fun p => p * 1000, offlineMs := 0 } }
  notify .system "LINK_RESTORED" [.num (min (s.watch.offlineMs / 1000) 65535 : Nat)]
    (NoticeClass.all.foldl (fun s c => collectLatch c s) t)

/-- A frame with good framing is received (R196, R197). -/
def frameReceived (s : State) : State :=
  if s.watch.online then
    { s with watch := { s.watch with timer := s.watch.period.map fun p => p * 1000 } }
  else goOnline s

/-! ## NOTICE_ENABLE (R208) -/

/-- A class is enabled or disabled (R208), in either link mode.
DESIGN CHOICE (log 52). -/
def setClass (c : NoticeClass) (on : Bool) (s : State) : State :=
  if on then
    (if (s.link.classes.get c).enabled then collectLatch c s
     else { s with link := { s.link with classes := s.link.classes.set c { s.link.classes.get c with enabled := true } } })
  else { s with link := { s.link with classes := s.link.classes.set c { enabled := false, latched := false } } }

/-- Whether NOTICE_ENABLE queues a LATCHED notice (R208), in either link mode.
DESIGN CHOICE (log 52). -/
def latchCollected (c : NoticeClass) (on : Bool) (s : State) : Bool :=
  on && (s.link.classes.get c).enabled && (s.link.classes.get c).latched && s.link.notices.length < 16

/-- The NOTICE_ENABLE request (R208). R208 says that it always finds the part ONLINE; taken OFFLINE from the pending slot it does
the same.
DESIGN CHOICE (log 52). -/
def noticeEnableRule (fields : List Text) (s : State) : Answer := match fields with
  | [f, g] => match parseWord NoticeClass.words f, parseWord onOffWords g with
    | some c, some on =>
      accept (setClass c on s)
        [classField c, onOff on, if latchCollected c on s then .word "LATCHED" else .empty]
    | _, _ => refuse .args s
  | _ => refuse .args s

/-! ## STATUS (R209) and RESTART (R217) -/

/-- The zeros group of STATUS for a platform (R40, R209). -/
def zeroFields (s : State) (p : Platform) : List Field :=
  let c := s.chains.get p
  [platField p, .num c.z, .num (c.z - s.zRef p), yesNo c.zeroRange]

/-- The barriers group of STATUS for a barrier (R64, R209). -/
def barrierFields (s : State) (b : Barrier) : List Field :=
  let r := s.bar b
  [.word (BarState.word r.state), yesNo r.lowerPending, match r.cause with
    | some c => .word (FaultCause.word c)
    | none => .empty]

/-- The printers group of STATUS for a printer (R179, R209). -/
def printerFields (s : State) (p : Printer) : List Field :=
  let r := s.printer p
  [.word (PrinterState.word r.state), .num r.queue.length, headTicket r, onOff r.suppressed]

/-- The notices group of STATUS for a class (R209). -/
def classFields (s : State) (c : NoticeClass) : List Field :=
  [yesNo (s.link.classes.get c).enabled, yesNo (s.link.classes.get c).latched]

/-- The STATUS fields of a running part (R209). -/
def statusFields (s : State) : List Field :=
  [.word "RUNNING", .word (if s.part.lastReset = .cold then "COLD" else "WARM")] ++
  [1, 2, 3, 4, 5, 6, 7].map s.statusLetter ++ [.num s.settings.counter] ++
  modeFields s ++
  (Mode.platforms s.plat.mode).flatMap (zeroFields s) ++
  [.num s.nextCapture] ++
  Barrier.all.flatMap (barrierFields s) ++
  [Printer.a, Printer.b].flatMap (printerFields s) ++
  [.num s.tickets.nextTicket, .num s.tickets.journal.length, .num s.journalFree] ++
  [.num s.visits.table.length, .num s.unjournalled, .num s.alloc.queue.length] ++
  [.num s.time.day, .num s.time.second, yesNo s.time.valid, optNum s.time.lastValid] ++
  [.word (if s.watch.period.isSome then "ARMED" else "DISARMED"), optNum s.watch.period,
   .word (if s.watch.online then "ONLINE" else "OFFLINE"), secondsLeft s.watch.timer] ++
  NoticeClass.all.flatMap (classFields s) ++ [.num s.link.notices.length] ++
  [.num s.link.discards]

/-- The STATUS request (R209). -/
def statusRule (fields : List Text) (s : State) : Answer := match fields with
  | [] => if s.running then accept s (statusFields s) else accept s [.word "STARTING"]
  | _ => refuse .args s

/-- The RESTART request (R217): its reply is sent in full before the reset. -/
def restartRule (fields : List Text) (s : State) : Answer := match fields with
  | [] => accept s []
  | _ => refuse .args s

end Sys2Proof.Machine
end

