-- ==== Sys2Proof/Machine/OfficeLink.lean ====
section
/-! DEFINITION. The office link (chapter 12): how frames are placed, requests taken and replies sent. -/

namespace Sys2Proof.Machine

/-- One event of the part: the effect, the allocator's rule after it (R128), the transmitter's choice (R206).
DEDUCED (log 21). -/
def event (f : State → State) (s : State) : State := pump (settleAllocator s (f s))

/-- A rule whose effects the allocator may act on (R128). -/
def settled (rule : State → Answer) (s : State) : Answer := (settleAllocator s (rule s).1, (rule s).2)

/-- The owning rule of each request (section 12.4). -/
def ownerRule (n : ReqName) (fs : List Text) (s : State) : Answer := match n with
  | .status => statusRule fs s
  | .diag => diagRule fs s
  | .weight => weightRule fs s
  | .zero => zeroRule fs s
  | .inputs => inputsRule fs s
  | .inputOverride => settled (inputOverrideRule fs) s
  | .barrierReset => settled (barrierResetRule fs) s
  | .gateOpen => gateOpenRule fs s
  | .admitVehicle => settled (admitRule fs) s
  | .refuse => refuseRule fs s
  | .platform => platformRule fs s
  | .platformMode => settled (platformModeRule fs) s
  | .platformAccept => settled (platformAcceptRule fs) s
  | .platformRetry => settled (platformRetryRule fs) s
  | .platformRelease => settled (platformReleaseRule fs) s
  | .platformAbort => settled (platformAbortRule fs) s
  | .call => settled (callRule fs) s
  | .queue => queueRule fs s
  | .visit => visitRule fs s
  | .visitList => visitListRule fs s
  | .visitResolve => settled (visitResolveRule fs) s
  | .cancel => settled (cancelRule fs) s
  | .requeue => settled (requeueRule fs) s
  | .holdVisit => settled (holdVisitRule fs) s
  | .vehicleGet => vehicleGetRule fs s
  | .vehiclePut => vehiclePutRule fs s
  | .vehicleDelete => vehicleDeleteRule fs s
  | .accountGet => accountGetRule fs s
  | .accountPut => accountPutRule fs s
  | .accountStatus => accountStatusRule fs s
  | .accountDelete => accountDeleteRule fs s
  | .journalRead => journalReadRule fs s
  | .journalRelease => journalReleaseRule fs s
  | .reprint => reprintRule fs s
  | .printSuppress => settled (printSuppressRule fs) s
  | .timeSet => timeSetRule fs s
  | .linkWatch => linkWatchRule fs s
  | .noticeEnable => noticeEnableRule fs s
  | .settingsRead => settingsReadRule fs s
  | .settingsWrite => settingsWriteRule fs s
  | .restart => restartRule fs s

/-- A request is taken (R204): while STARTING, STATUS alone reaches its rule. -/
def takeRequest (n : ReqName) (fs : List Text) (s : State) : Answer :=
  if s.running || n = .status then ownerRule n fs s else refuse .starting s

/-- A RESTART that was taken: its reply resets the part when it has been sent (R217). -/
def isRestart (n : ReqName) (r : Reply) : Bool := match n, r with
  | .restart, .ok _ => true
  | _, _ => false

/-- A frame enters service (R203, R204): its reply is built in the same event. -/
def enterService (f : RxFrame) (s : State) : State :=
  let put (t : State) (sv : Service) : State := { t with link := { t.link with inService := some sv } }
  match f with
  | .malformed => put s { reply := .err .frame, restart := false }
  | .good none _ => put s { reply := .err .unknown, restart := false }
  | .good (some n) fs =>
    let a := takeRequest n fs s
    put a.1 { reply := a.2, restart := isRestart n a.2 }

/-- The code of an owed refusal (R203). -/
def refusedCode : RxFrame → Refused
  | .malformed => .frame
  | .good _ _ => .busy

/-- An ended frame is placed (R203). -/
def placeFrame (f : RxFrame) (s : State) : State :=
  let l := s.link
  if l.inService.isNone && l.owed.isEmpty then enterService f s
  else if l.waiting.isNone && l.owed.isEmpty then { s with link := { l with waiting := some f } }
  else if l.owed.length < 16 then { s with link := { l with owed := l.owed ++ [refusedCode f] } }
  else { s with link := { l with discards := satSucc l.discards } }

/-- The frame assembly is outside a frame, with the gap timer stopped (R201). -/
def closeFrame (s : State) : State := { s with link := { s.link with assembly := [], gap := none } }

/-- A frame has ended (R196, R197, R201, R203): one with good framing is first received by the link silence timer, and the frame
assembly is outside a frame. Before R200 starts the link, what arrives is discarded. -/
def frameEnds (f : RxFrame) (s : State) : State :=
  if s.link.started then closeFrame (match f with
    | .good _ _ => placeFrame f (frameReceived s)
    | .malformed => placeFrame f s)
  else s

/-- The gap timer's period in ms (R201). -/
def gapTime : Nat := 500

/-- The most characters of a frame that the assembly keeps: a frame with good framing has no more (R202), and one that is longer
is malformed whatever follows. DESIGN CHOICE (log 44). -/
def assemblyTop : Nat := 245

/-- What received characters make of the frame assembly (R200, R201): outside a frame each is discarded up to a '<' without a
framing error; a CR ends the frame, which is judged whole; without one the frame stays open, and its gap timer restarts.
DESIGN CHOICE (log 9). -/
def charsArrive (chars : List RxByte) (s : State) : State :=
  if s.link.started then
    let held := fromStart (s.link.assembly ++ chars)
    match throughCr held with
    | some frame => frameEnds (parseFrame frame) s
    | none =>
      if held.isEmpty then s
      else { s with link := { s.link with assembly := held.take assemblyTop, gap := some gapTime } }
  else s

/-- The gap timer expires (R201): taken while it runs, it ends the frame as malformed. No timer runs in STARTING (R194).
DEDUCED (log 47). -/
def gapFires (s : State) : State := match s.link.gap with
  | some _ => if s.running then frameEnds .malformed s else s
  | none => s

/-- The frame of a host request ends, whatever of it the frame assembly already held. DESIGN CHOICE (log 8). -/
def requestArrives (n : ReqName) (fs : List Text) (s : State) : State := event (frameEnds (.good (some n) fs)) s

/-- The reply of the frame in service has been sent (R203): the slot empties, and a pending frame moves into service. -/
def replySent (s : State) : State :=
  let t := { s with link := { s.link with inService := none, sending := none } }
  match t.link.waiting with
  | some f => enterService f { t with link := { t.link with waiting := none } }
  | none => t

end Sys2Proof.Machine
end

