-- ==== Sys2Proof/Machine/StartUp.lean ====
section
/-! DEFINITION. Resets and the STARTING state (chapter 13), and each block's values at the end of STARTING. -/

namespace Sys2Proof.Machine

/-! ## What no reset keeps -/

/-- The sign line with nothing sent since the reset. -/
def SignLine.silent : SignLine := { lastSent := { a := none, b := none }, waiting := [], sending := none }

/-- A platform's chain after a reset, under the calibration just loaded (R36, R44, R53). -/
def freshChain (s : State) (p : Platform) : Chain := Chain.reset (s.zRef p) (!s.calibrated p)

/-- A platform record over a reset: its call timer and wrong mark are not kept (section 6.9). -/
def PlatRec.overReset (r : PlatRec) : PlatRec := { r with callTimer := none, wrong := false }

/-- A printer over a reset: its queue alone is kept (R187). -/
def PrinterRec.overReset (r : PrinterRec) : PrinterRec := { PrinterRec.reset r.queue with enquiryTimer := none }

/-- Every state that no reset keeps takes its reset value, under the settings in force (sections 1.8, 5.7; R36, R44, R53, R61,
R187, R194, R199). Barriers, gates and platforms read their inputs at the end of STARTING. -/
def clearVolatile (s : State) : State :=
  { s with
    intakes := { a := Intake.reset (s.cal .a).n, b := Intake.reset (s.cal .b).n },
    sync := false,
    chains := { a := freshChain s .a, b := freshChain s .b, ab := freshChain s .ab },
    drives := PerBarrier.all Drive.off,
    beacons := { a := false, b := false },
    bars := PerBarrier.all (Bar.atRest .down),
    recent := { r1 := RecentRead.reset, r2 := RecentRead.reset, r3 := RecentRead.reset, r4 := RecentRead.reset,
                r5 := RecentRead.reset, r6 := RecentRead.reset, r7 := RecentRead.reset },
    readerErrors := 0,
    gates := { entry := GateRec.reset, exit := GateRec.reset },
    plat := { s.plat with
      recs := { a := s.plat.recs.a.overReset, b := s.plat.recs.b.overReset, ab := s.plat.recs.ab.overReset },
      signs := SignLine.silent },
    alloc := { queue := s.alloc.queue.map fun e => { e with mark := none }, flight := { a := none, b := none, ab := none } },
    tickets := { s.tickets with printers :=
      { a := s.tickets.printers.a.overReset, b := s.tickets.printers.b.overReset } },
    time := { msDivider := 0, subMs := 0, day := 0, second := 0, valid := false, lastValid := s.time.lastValid },
    watch := Watch.reset }

/-- An input over a reset: no override, no debounce (R56, R61). -/
def Input.overReset (x : Input) : Input := { x with override := .none, debounce := none }

/-- The inputs of every barrier changed alike. -/
def mapInputs (f : InputId → Input → Input) (s : State) : State :=
  InputId.all.foldl (fun t i => t.modInput i (f i)) s

/-! ## The reset event (R211, R215, R216) -/

/-- The kind of a reset from the retained memory signature (R215). -/
def kindOf (signature : Bool) : ResetKind := if signature then .warm else .cold

/-- A reset (R216): a write in flight is abandoned, the settings are loaded, and the part is STARTING with its outputs OFF.
DESIGN CHOICE (log 15). Until section 6 has been judged the line rate in use is 19,200 baud. DESIGN CHOICE (log 45). -/
def resetPart (kind : ResetKind) (signature : Bool) (u : Unacked) (s : State) : State :=
  let s1 := spoilWrite s
  let s2 := { s1 with
    part := { phase := .starting, lastReset := kind, signatureGood := signature },
    settings := loadSettings u s1.settings.mem,
    link := OfficeLink.reset false 1 }
  clearVolatile (mapInputs (fun _ => Input.overReset) s2)

/-- A power-on (R215): the signature is bad when the retained memory has lost its content. -/
def poweredOn (bkok kept : Bool) (u : Unacked) (s : State) : State :=
  let signature := s.part.signatureGood && kept
  resetPart (kindOf (bkok && signature)) signature u s

/-- The reset input has been active and is released (R215), or a RESTART's reply has been sent (R217). -/
def resetBySignature (u : Unacked) (s : State) : State :=
  resetPart (kindOf s.part.signatureGood) s.part.signatureGood u s

/-- The office link starts once section 6 has been judged (R200, R210): at the rate the load gave. -/
def startLink (s : State) : State :=
  if !s.running && !s.link.started then { s with link := OfficeLink.reset true s.settings.ticket.rate } else s

/-! ## The end of STARTING (R216) -/

/-- The mode after a COLD reset (R122). -/
def coldMode (s : State) : Mode := if s.settings.plat.defaultMode = .combined && s.pairCalibrated then .combined else .split

/-- Every retained state at its COLD value (R216).
DESIGN CHOICE (log 24). -/
def coldRetained (s : State) : State :=
  { s with
    nextCapture := 1,
    plat := { mode := coldMode s, target := none, accepting := { a := true, b := true }, recs := freeRecs s,
              signs := s.plat.signs },
    alloc := { queue := [], flight := { a := none, b := none, ab := none } },
    tables := { vehicles := [], accounts := [(0, Account.cash)] },
    visits := { table := [], nextId := 1 },
    tickets := { journal := [], nextTicket := 1, printers := { a := PrinterRec.reset [], b := PrinterRec.reset [] } },
    time := { s.time with lastValid := none } }

/-- The inputs take the levels read at the end of STARTING (R61). -/
def readInputs (s : State) : State :=
  mapInputs (fun i x => { x with override := .none, debounce := none, deb := logical (s.inputSet i) x.high }) s

/-- A barrier takes its start-up state from its inputs (R72). -/
def startBarrier (b : Barrier) (s : State) : State := match barFromInputs b s with
  | some r => setBar b r s
  | none => barFault b .limits s

/-- A gate lowers a barrier found UP (R85, R93). -/
def startGate (g : Gate) (s : State) : State :=
  if (s.bar (gateBar g)).state = .up then lowerReq (gateBar g) s else s

/-- The printers at the end of STARTING (R187). -/
def startPrinters (s : State) : State :=
  { s with tickets := { s.tickets with printers :=
      { a := PrinterRec.reset s.tickets.printers.a.queue, b := PrinterRec.reset s.tickets.printers.b.queue } } }

/-- The MODE_FAILED notice for a reset in SWITCHING (R121), and the target forgotten. -/
def failSwitchAtReset (s : State) : State := match s.plat.target with
  | some m =>
    notify .platform "MODE_FAILED" [modeField m, .word "RESET"] { s with plat := { s.plat with target := none } }
  | none => s

/-- A platform of the retained mode restored after a WARM reset (R121, R132, R172).
DEDUCED (log 32). -/
def restorePlatform (p : Platform) (s : State) : State :=
  let r := s.platRec p
  let cleared := { r with beamSeen := false, passed := false }
  match r.state with
  | .free => freePlatform p s
  | .switching => freePlatform p s
  | .calling => match r.visit with
    | some id => enterQueued id (freePlatform p s)
    | none => freePlatform p s
  | .entering => enterHold p .reset .positioning s
  | .positioning => enterHold p .reset .positioning s
  | .weighing => enterHold p .reset .positioning s
  | .awaiting => enterHold p .reset .awaiting s
  | .exiting => enterHold p .reset .exit (s.modRec p fun _ => cleared)
  | .hold => if r.resume = some .exit then s.modRec p fun _ => cleared else s

/-- The platforms of the mode that is not current hold FREE with the settings' ends (section 6.2). -/
def freeOthers (s : State) : State := match s.plat.mode with
  | .split => s.modRec .ab fun _ => PlatRec.free s.settings.plat.ends.ab
  | .combined =>
    (s.modRec .a fun _ => PlatRec.free s.settings.plat.ends.a).modRec .b fun _ => PlatRec.free s.settings.plat.ends.b

/-- A FREE platform lowers an entry or exit barrier found UP (R96). -/
def lowerIfUp (b : Barrier) (s : State) : State := if (s.bar b).state = .up then lowerReq b s else s

/-- An inner barrier found DOWN or LOWERING in COMBINED mode is raised (R95). -/
def raiseIfDown (b : Barrier) (s : State) : State :=
  if (s.bar b).state = .down || (s.bar b).state = .lowering then raiseReq b s else s

/-- A platform brings its barriers to order at start-up (R95, R96). -/
def orderBarriers (p : Platform) (s : State) : State :=
  let s1 := (innerBarriersOf p).foldl (fun s b => raiseIfDown b s) s
  if (s1.platRec p).state = .free then lowerIfUp (s1.exitBar p) (lowerIfUp (s1.entryBar p) s1) else s1

/-- The platforms after a WARM reset (R121): A before B (R132). -/
def restorePlatforms (s : State) : State :=
  freeOthers ((Mode.platforms s.plat.mode).foldl (fun s p => restorePlatform p s) (failSwitchAtReset s))

/-- The MODE_FAILED notice of a COLD start whose default mode is not allowed (R122). -/
def coldModeNotice (s : State) : State :=
  if s.settings.plat.defaultMode = .combined && s.plat.mode = .split then
    notify .platform "MODE_FAILED" [modeField .combined, .word "CONFIG"] s
  else s

/-- The SETTINGS_LOADED notice (R211). -/
def settingsLoaded (s : State) : State :=
  notify .system "SETTINGS_LOADED" ([1, 2, 3, 4, 5, 6, 7].map s.statusLetter ++ [.num s.settings.counter]) s

/-- Both signs are sent their messages (R118). -/
def sendSigns (s : State) : State := judgeSigns { s with plat := { s.plat with signs := SignLine.silent } }

/-- The retained state as the kind of the reset leaves it (R216). -/
def retainedState (s : State) : State := match s.part.lastReset with
  | .cold => coldRetained s
  | .warm => s

/-- The platforms' records as the kind of the reset leaves them (R121, R122). -/
def startRecords (s : State) : State := match s.part.lastReset with
  | .cold => coldModeNotice s
  | .warm => restorePlatforms s

/-- STARTING ends (R216): the signature is written good, and each block sets its state by its reset rule. The platforms that are
grantable then have their first grants in the same event. DEDUCED (log 50). -/
def startingEnds (s : State) : State :=
  if s.running then s
  else
    let s1 := retainedState s
    let s2 := startPrinters (readInputs (clearVolatile s1))
    let s3 := { (if s2.link.started then s2 else startLink s2) with
      part := { phase := .running, lastReset := s2.part.lastReset, signatureGood := true } }
    let s4 := Barrier.all.foldl (fun s b => startBarrier b s) s3
    let s5 := startGate .exit (startGate .entry s4)
    let s6 := startRecords s5
    let s7 := (Mode.platforms s6.plat.mode).foldl (fun s p => orderBarriers p s) s6
    settingsLoaded (refreshBeacons (sendSigns s7))

/-- The transmitter finishes a frame (R206): the reply of a RESTART resets the part, another reply empties the slot.
DESIGN CHOICE (log 18). -/
def frameSent (u : Unacked) (s : State) : State := match s.link.sending with
  | none => s
  | some (.reply sv) => if sv.restart then resetBySignature u s else replySent s
  | some (.refusal _) => { s with link := { s.link with sending := none } }
  | some (.notice _) => { s with link := { s.link with sending := none } }

end Sys2Proof.Machine
end

