-- ==== Sys2Proof/Machine/Ticks.lean ====
section
/-! DEFINITION. What the part does by itself when no command waits: consumption, grants in flight, and the 1 ms tick (R188). -/

namespace Sys2Proof.Machine

/-! ## Counting down (R188): a timer at 0 is due in this tick -/

def Timer.down (t : Timer) : Timer := t.map fun n => n - 1

def HoldTimer.down : HoldTimer → HoldTimer
  | .stopped => .stopped
  | .running n => .running (n - 1)
  | .expired => .expired

def RecentRead.down (e : RecentRead) : RecentRead := { e with hold := e.hold.down }
def Capture.down (c : Capture) : Capture := { c with timer := c.timer - 1 }
def Intake.down (i : Intake) : Intake := { i with timer := i.timer.down }
def Chain.down (c : Chain) : Chain := { c with capture := c.capture.map Capture.down }
def Input.down (x : Input) : Input := { x with debounce := x.debounce.down }
def Bar.down (r : Bar) : Bar := { r with timer := r.timer.down }
def GateRec.down (g : GateRec) : GateRec := { g with timer := g.timer.down }
def PlatRec.down (r : PlatRec) : PlatRec := { r with callTimer := r.callTimer.down }
def PrinterRec.down (r : PrinterRec) : PrinterRec :=
  { r with statusTimer := r.statusTimer.down, enquiryTimer := r.enquiryTimer.down }

def PerLine.mapAll {α : Type} (f : α → α) (x : PerLine α) : PerLine α :=
  { loop := f x.loop, beam := f x.beam, up := f x.up, down := f x.down }

def PerBarrier.mapAll {α : Type} (f : α → α) (x : PerBarrier α) : PerBarrier α :=
  { aN := f x.aN, aS := f x.aS, bN := f x.bN, bS := f x.bS, eN := f x.eN, eX := f x.eX }

/-- Every running timer counts one tick (R188), and so does the time spent OFFLINE (R197). -/
def countDown (s : State) : State :=
  { s with
    intakes := { a := s.intakes.a.down, b := s.intakes.b.down },
    chains := { a := s.chains.a.down, b := s.chains.b.down, ab := s.chains.ab.down },
    inputs := s.inputs.mapAll (PerLine.mapAll Input.down),
    bars := s.bars.mapAll Bar.down,
    recent := { r1 := s.recent.r1.down, r2 := s.recent.r2.down, r3 := s.recent.r3.down, r4 := s.recent.r4.down,
                r5 := s.recent.r5.down, r6 := s.recent.r6.down, r7 := s.recent.r7.down },
    gates := { entry := s.gates.entry.down, exit := s.gates.exit.down },
    plat := { s.plat with recs := { a := s.plat.recs.a.down, b := s.plat.recs.b.down, ab := s.plat.recs.ab.down } },
    tickets := { s.tickets with printers := { a := s.tickets.printers.a.down, b := s.tickets.printers.b.down } },
    watch := { s.watch with
      timer := s.watch.timer.down, offlineMs := if s.watch.online then s.watch.offlineMs else s.watch.offlineMs + 1 },
    link := { s.link with gap := s.link.gap.down },
    settings := { s.settings with write := s.settings.write.map fun w => { w with timer := w.timer - 1 } } }

/-! ## Expiries of a tick, each an event, in a fixed order (log 6) -/

/-- An expiry happens when its timer is still due: not stopped or restarted by an earlier expiry of the tick (R188). -/
def fireIf (due : State → Bool) (f : State → State) (s : State) : State := if due s then event f s else s

def isDue (t : Timer) : Bool := t == some 0

def holdDue : HoldTimer → Bool
  | .running n => n == 0
  | .stopped => false
  | .expired => false

def fireFrame (d : Deck) : State → State := fireIf (fun s => isDue (s.intakes.get d).timer) (frameTimerFires d)
def fireDebounce (i : InputId) : State → State := fireIf (fun s => isDue (s.inputs.input i).debounce) (debounceFires i)
def fireTravel (b : Barrier) : State → State := fireIf (fun s => isDue (s.bar b).timer) (travelFires b)
def fireRepeat (r : Reader) : State → State := fireIf (fun s => holdDue (s.recent.get r).hold) (repeatHoldFires r)
def fireGate (g : Gate) : State → State := fireIf (fun s => isDue (s.gate g).timer) (gateHoldFires g)
def fireCall (p : Platform) : State → State := fireIf (fun s => isDue (s.platRec p).callTimer) (callFires p)
def fireCapture (p : Platform) : State → State :=
  fireIf (fun s => (s.chains.get p).capture.any fun k => k.timer == 0) (captureFires p)
def fireStatus (p : Printer) : State → State := fireIf (fun s => isDue (s.printer p).statusTimer) (statusFires p)
def fireEnquiry (p : Printer) : State → State := fireIf (fun s => isDue (s.printer p).enquiryTimer) (enquiryFires p)
def fireGap : State → State := fireIf (fun s => isDue s.link.gap) gapFires
def fireSilence : State → State := fireIf (fun s => isDue s.watch.timer) silenceFires
def fireTransfer : State → State :=
  fireIf (fun s => s.settings.write.any fun w => w.timer == 0) transferTimeoutFires

/-- The sync pulse lasts 1 ms (R13): the tick ends it. -/
def fireSync : State → State := fireIf (fun s => s.sync) syncPulseEnds

/-- The sub-second divider counts a tick (R189), and issues the 1 s tick at 1,000. -/
def countSecond (s : State) : State :=
  if s.time.subMs < 999 then { s with time := { s.time with subMs := s.time.subMs + 1 } } else event secondTick s

def Reader.all : List Reader := [.r1, .r2, .r3, .r4, .r5, .r6, .r7]

/-- The expiries a tick may bring, in the order of log 6.
DESIGN CHOICE (log 6). -/
def tickOrder : List (State → State) :=
  [fireSync, fireFrame .a, fireFrame .b] ++ InputId.all.map fireDebounce ++ Barrier.all.map fireTravel ++
  Reader.all.map fireRepeat ++ [fireGate .entry, fireGate .exit, fireCall .a, fireCall .b, fireCall .ab, fireCapture .a,
    fireCapture .b, fireCapture .ab, fireStatus .a, fireStatus .b, fireEnquiry .a, fireEnquiry .b, fireGap, fireSilence, fireTransfer,
    countSecond]

/-- One 1 ms tick (R188, R189). None is issued in STARTING (R194). -/
def msTick (s : State) : State := if s.running then tickOrder.foldl (fun t f => f t) (countDown s) else s

/-! ## The part by itself (log 5) -/

/-- A grant in flight, of platform A first, then B, then AB. -/
def State.flying (s : State) : Option Platform :=
  if s.alloc.flight.a.isSome then some .a
  else if s.alloc.flight.b.isSome then some .b
  else if s.alloc.flight.ab.isSome then some .ab
  else none

/-- What the part does when no command waits: it consumes what an intake holds (R11, R12), delivers a grant in flight (R129), or
passes a tick (R188).
DESIGN CHOICE (log 5). -/
def selfStep (s : State) : State :=
  if s.frameReady .a then event (consumeFrame .a) s
  else if s.frameReady .b then event (consumeFrame .b) s
  else if s.pairReady then event consumePair s
  else match s.flying with
    | some p => event (grantArrives p) s
    | none => msTick s

end Sys2Proof.Machine
end

