-- ==== Sys2Proof/Machine/FieldCommands.lean ====
section
/-! DEFINITION. Commands of the field signals, readers and gates (chapters 4 and 5): one meaning for each row, over the queue's rest. -/

namespace Sys2Proof.Machine

/-- An input's raw electrical level changes (R54, R55). -/
def execInputRawChange (i : InputId) (high : Bool) (s : State) : Host.Outcome State Fault Refusal :=
  .next (event (rawArrives i high) s)

/-- An input's debounce expires (R55). -/
def execDebounceExpiry (i : InputId) (s : State) : Host.Outcome State Fault Refusal :=
  .next (event (debounceFires i) s)

/-- The INPUT_OVERRIDE request arrives (R59, log 8). -/
def execInputOverride (fs : List Text) (s : State) : Host.Outcome State Fault Refusal :=
  .next (requestArrives .inputOverride fs s)

/-- The INPUTS request arrives (R60, log 8). -/
def execInputs (fs : List Text) (s : State) : Host.Outcome State Fault Refusal :=
  .next (requestArrives .inputs fs s)

/-- A barrier's travel timer expires (R69). -/
def execTravelTimerExpiry (b : Barrier) (s : State) : Host.Outcome State Fault Refusal :=
  .next (event (travelFires b) s)

/-- The BARRIER_RESET request arrives (R71, log 8). -/
def execBarrierReset (fs : List Text) (s : State) : Host.Outcome State Fault Refusal :=
  .next (requestArrives .barrierReset fs s)

/-- A reader report ends at its CR (R74 to R79). -/
def execReaderReportEnd (chars : List RxByte) (begunStarting : Bool) (s : State) : Host.Outcome State Fault Refusal :=
  .next (event (reportEnds chars begunStarting) s)

/-- A reader report is abandoned (R74). Either cause counts one malformed report, unless the report was begun in STARTING. -/
def execReaderReportAbandoned (report : AbandonedReport) (s : State) : Host.Outcome State Fault Refusal :=
  match report.cause with
  | .hashInside => .next (event (reportAbandoned report.begunStarting) s)
  | .tooLong => .next (event (reportAbandoned report.begunStarting) s)

/-- A reader's hold timer expires (R77). -/
def execRepeatHoldExpiry (r : Reader) (s : State) : Host.Outcome State Fault Refusal :=
  .next (event (repeatHoldFires r) s)

/-- A gate's hold timer expires (R83, R90). -/
def execGateHoldExpiry (g : Gate) (s : State) : Host.Outcome State Fault Refusal :=
  .next (event (gateHoldFires g) s)

/-- The ADMIT request arrives (R87, log 8). -/
def execAdmit (fs : List Text) (s : State) : Host.Outcome State Fault Refusal :=
  .next (requestArrives .admitVehicle fs s)

/-- The REFUSE request arrives (R88, log 8). -/
def execRefuse (fs : List Text) (s : State) : Host.Outcome State Fault Refusal :=
  .next (requestArrives .refuse fs s)

/-- The GATE_OPEN request arrives (R91, log 8). -/
def execGateOpen (fs : List Text) (s : State) : Host.Outcome State Fault Refusal :=
  .next (requestArrives .gateOpen fs s)

end Sys2Proof.Machine
end

