-- ==== Sys2Proof/Machine/LinkCommands.lean ====
section
/-! DEFINITION. Commands of time, office link, settings and start-up (chapters 11 to 13): one meaning for each row, over the queue's rest. -/

namespace Sys2Proof.Machine

/-- A 1 s tick is issued (R39, R189, R190). -/
def execOneSecondTick (s : State) : Host.Outcome State Fault Refusal :=
  .next (event secondTick s)

/-- The TIME_SET request arrives (R192, log 8). -/
def execTimeSet (fs : List Text) (s : State) : Host.Outcome State Fault Refusal :=
  .next (requestArrives .timeSet fs s)

/-- The LINK_WATCH request arrives (R195, log 8). -/
def execLinkWatch (fs : List Text) (s : State) : Host.Outcome State Fault Refusal :=
  .next (requestArrives .linkWatch fs s)

/-- The silence timer expires (R196). -/
def execSilenceTimerExpiry (s : State) : Host.Outcome State Fault Refusal :=
  .next (event silenceFires s)

/-- Characters arrive on the office link, the last of them the CR that ends the frame (R200 to R204); without a CR the frame stays
in assembly (log 9). -/
def execOfficeFrameEnd (chars : List RxByte) (s : State) : Host.Outcome State Fault Refusal :=
  .next (event (charsArrive chars) s)

/-- The gap timer ends a frame, as malformed (R201, R203). -/
def execFrameGapTimeout (s : State) : Host.Outcome State Fault Refusal :=
  .next (event gapFires s)

/-- The transmitter finishes a frame (R203, R206, R217). -/
def execOfficeFrameSent (u : Unacked) (s : State) : Host.Outcome State Fault Refusal :=
  .next (event (frameSent u) s)

/-- The NOTICE_ENABLE request arrives (R208, log 8). -/
def execNoticeEnable (fs : List Text) (s : State) : Host.Outcome State Fault Refusal :=
  .next (requestArrives .noticeEnable fs s)

/-- The STATUS request arrives (R209, log 8). -/
def execStatus (fs : List Text) (s : State) : Host.Outcome State Fault Refusal :=
  .next (requestArrives .status fs s)

/-- The SETTINGS_READ request arrives (R212, log 8). -/
def execSettingsRead (fs : List Text) (s : State) : Host.Outcome State Fault Refusal :=
  .next (requestArrives .settingsRead fs s)

/-- The SETTINGS_WRITE request arrives (R213, log 8). -/
def execSettingsWrite (fs : List Text) (s : State) : Host.Outcome State Fault Refusal :=
  .next (requestArrives .settingsWrite fs s)

/-- The memory acknowledges a transfer of a write (R214). -/
def execSettingsTransferAck (s : State) : Host.Outcome State Fault Refusal :=
  .next (event transferAck s)

/-- A transfer of a write is not acknowledged in time (R214). -/
def execSettingsTransferTimeout (s : State) : Host.Outcome State Fault Refusal :=
  .next (event transferTimeoutFires s)

/-- A power-on (R215, R211, R216). -/
def execPowerOn (bkok kept : Bool) (u : Unacked) (s : State) : Host.Outcome State Fault Refusal :=
  .next (event (poweredOn bkok kept u) s)

/-- The reset input is active and released (R215). -/
def execResetInput (u : Unacked) (s : State) : Host.Outcome State Fault Refusal :=
  .next (event (resetBySignature u) s)

/-- The RESTART request arrives (R217, log 8). -/
def execRestart (fs : List Text) (s : State) : Host.Outcome State Fault Refusal :=
  .next (requestArrives .restart fs s)

/-- The office link starts (R200, R210). -/
def execOfficeLinkStart (s : State) : Host.Outcome State Fault Refusal :=
  .next (event startLink s)

/-- STARTING ends (R216). -/
def execStartingEnd (s : State) : Host.Outcome State Fault Refusal :=
  .next (event startingEnds s)

end Sys2Proof.Machine
end

