-- ==== Sys2Proof/Machine/PlatformCommands.lean ====
section
/-! DEFINITION. Commands of the platforms and the allocator (chapters 6 and 7): one meaning for each row, over the queue's rest. -/

namespace Sys2Proof.Machine

/-- The grant in flight reaches its platform (R99, R129, R130). -/
def execGrant (p : Platform) (s : State) : Host.Outcome State Fault Refusal :=
  .next (event (grantArrives p) s)

/-- A platform's call timer expires (R101, R131). -/
def execCallTimerExpiry (p : Platform) (s : State) : Host.Outcome State Fault Refusal :=
  .next (event (callFires p) s)

/-- The PLATFORM_RETRY request arrives (R110, log 8). -/
def execPlatformRetry (fs : List Text) (s : State) : Host.Outcome State Fault Refusal :=
  .next (requestArrives .platformRetry fs s)

/-- The PLATFORM_RELEASE request arrives (R111, log 8). -/
def execPlatformRelease (fs : List Text) (s : State) : Host.Outcome State Fault Refusal :=
  .next (requestArrives .platformRelease fs s)

/-- The PLATFORM_ABORT request arrives (R112, log 8). -/
def execPlatformAbort (fs : List Text) (s : State) : Host.Outcome State Fault Refusal :=
  .next (requestArrives .platformAbort fs s)

/-- The PLATFORM_ACCEPT request arrives (R113, log 8). -/
def execPlatformAccept (fs : List Text) (s : State) : Host.Outcome State Fault Refusal :=
  .next (requestArrives .platformAccept fs s)

/-- The PLATFORM_MODE request arrives (R114, log 8). -/
def execPlatformMode (fs : List Text) (s : State) : Host.Outcome State Fault Refusal :=
  .next (requestArrives .platformMode fs s)

/-- The PLATFORM request arrives (R117, log 8). -/
def execPlatform (fs : List Text) (s : State) : Host.Outcome State Fault Refusal :=
  .next (requestArrives .platform fs s)

/-- The sign line finishes a message (R118). -/
def execSignMessageSent (s : State) : Host.Outcome State Fault Refusal :=
  .next (event signSent s)

/-- The CALL request arrives (R133, log 8). -/
def execCall (fs : List Text) (s : State) : Host.Outcome State Fault Refusal :=
  .next (requestArrives .call fs s)

/-- The QUEUE request arrives (R134, log 8). -/
def execQueue (fs : List Text) (s : State) : Host.Outcome State Fault Refusal :=
  .next (requestArrives .queue fs s)

end Sys2Proof.Machine
end

