-- ==== Sys2Proof/Machine/PrintCommands.lean ====
section
/-! DEFINITION. Commands on the journal and the printers (chapter 10): one meaning for each row, over the queue's rest. -/

namespace Sys2Proof.Machine

/-- The JOURNAL_READ request arrives (R177, log 8). -/
def execJournalRead (fs : List Text) (s : State) : Host.Outcome State Fault Refusal :=
  .next (requestArrives .journalRead fs s)

/-- The JOURNAL_RELEASE request arrives (R178, log 8). -/
def execJournalRelease (fs : List Text) (s : State) : Host.Outcome State Fault Refusal :=
  .next (requestArrives .journalRelease fs s)

/-- A printer has been sent its ticket's last character (R180). -/
def execTicketTextSent (p : Printer) (s : State) : Host.Outcome State Fault Refusal :=
  .next (event (textSent p) s)

/-- A character arrives from a printer (R181). -/
def execPrinterStatusChar (p : Printer) (c : Byte) (s : State) : Host.Outcome State Fault Refusal :=
  .next (event (printerChar p c) s)

/-- A printer's status timer expires (R182). -/
def execStatusTimerExpiry (p : Printer) (s : State) : Host.Outcome State Fault Refusal :=
  .next (event (statusFires p) s)

/-- A printer's enquiry timer expires (R182). -/
def execEnquiryTimerExpiry (p : Printer) (s : State) : Host.Outcome State Fault Refusal :=
  .next (event (enquiryFires p) s)

/-- The PRINT_SUPPRESS request arrives (R184, log 8). -/
def execPrintSuppress (fs : List Text) (s : State) : Host.Outcome State Fault Refusal :=
  .next (requestArrives .printSuppress fs s)

/-- The REPRINT request arrives (R185, log 8). -/
def execReprint (fs : List Text) (s : State) : Host.Outcome State Fault Refusal :=
  .next (requestArrives .reprint fs s)

end Sys2Proof.Machine
end

