-- ==== Sys2Proof/Machine/TableCommands.lean ====
section
/-! DEFINITION. Commands on tables and visits (chapters 8 and 9): one meaning for each row, over the queue's rest. -/

namespace Sys2Proof.Machine

/-- The VEHICLE_GET request arrives (R137, log 8). -/
def execVehicleGet (fs : List Text) (s : State) : Host.Outcome State Fault Refusal :=
  .next (requestArrives .vehicleGet fs s)

/-- The VEHICLE_PUT request arrives (R139, log 8). -/
def execVehiclePut (fs : List Text) (s : State) : Host.Outcome State Fault Refusal :=
  .next (requestArrives .vehiclePut fs s)

/-- The VEHICLE_DELETE request arrives (R140, log 8). -/
def execVehicleDelete (fs : List Text) (s : State) : Host.Outcome State Fault Refusal :=
  .next (requestArrives .vehicleDelete fs s)

/-- The ACCOUNT_GET request arrives (R142, log 8). -/
def execAccountGet (fs : List Text) (s : State) : Host.Outcome State Fault Refusal :=
  .next (requestArrives .accountGet fs s)

/-- The ACCOUNT_PUT request arrives (R143, log 8). -/
def execAccountPut (fs : List Text) (s : State) : Host.Outcome State Fault Refusal :=
  .next (requestArrives .accountPut fs s)

/-- The ACCOUNT_STATUS request arrives (R144, log 8). -/
def execAccountStatus (fs : List Text) (s : State) : Host.Outcome State Fault Refusal :=
  .next (requestArrives .accountStatus fs s)

/-- The ACCOUNT_DELETE request arrives (R145, log 8). -/
def execAccountDelete (fs : List Text) (s : State) : Host.Outcome State Fault Refusal :=
  .next (requestArrives .accountDelete fs s)

/-- The VISIT_RESOLVE request arrives (R162, log 8). -/
def execVisitResolve (fs : List Text) (s : State) : Host.Outcome State Fault Refusal :=
  .next (requestArrives .visitResolve fs s)

/-- The CANCEL request arrives (R167, log 8). -/
def execCancel (fs : List Text) (s : State) : Host.Outcome State Fault Refusal :=
  .next (requestArrives .cancel fs s)

/-- The HOLD_VISIT request arrives (R168, log 8). -/
def execHoldVisit (fs : List Text) (s : State) : Host.Outcome State Fault Refusal :=
  .next (requestArrives .holdVisit fs s)

/-- The REQUEUE request arrives (R168, log 8). -/
def execRequeue (fs : List Text) (s : State) : Host.Outcome State Fault Refusal :=
  .next (requestArrives .requeue fs s)

/-- The VISIT request arrives (R170, log 8). -/
def execVisit (fs : List Text) (s : State) : Host.Outcome State Fault Refusal :=
  .next (requestArrives .visit fs s)

/-- The VISIT_LIST request arrives (R171, log 8). -/
def execVisitList (fs : List Text) (s : State) : Host.Outcome State Fault Refusal :=
  .next (requestArrives .visitList fs s)

end Sys2Proof.Machine
end

