-- ==== Sys2Proof/Machine/WeighingCommands.lean ====
section
/-! DEFINITION. Commands of the load cells and the weighing engine (chapters 1 to 3): one meaning for each row, over the queue's rest. -/

namespace Sys2Proof.Machine

/-- A burst ends on a deck's link (R1 to R9, R13, R14). -/
def execDigitiserBurstEnd (d : Deck) (bytes : List RxByte) (s : State) : Host.Outcome State Fault Refusal :=
  .next (event (burstEnds d bytes) s)

/-- A deck's frame timer expires (R10). -/
def execFrameTimerExpiry (d : Deck) (s : State) : Host.Outcome State Fault Refusal :=
  .next (event (frameTimerFires d) s)

/-- The engine consumes a deck's head (R11). -/
def execConsumeFrame (d : Deck) (s : State) : Host.Outcome State Fault Refusal :=
  .next (event (consumeFrame d) s)

/-- The engine compares the two heads (R12). -/
def execConsumePair (s : State) : Host.Outcome State Fault Refusal :=
  .next (event consumePair s)

/-- The DIAG request arrives (R18, log 8). -/
def execDiag (fs : List Text) (s : State) : Host.Outcome State Fault Refusal :=
  .next (requestArrives .diag fs s)

/-- The WEIGHT request arrives (R35, log 8). -/
def execWeight (fs : List Text) (s : State) : Host.Outcome State Fault Refusal :=
  .next (requestArrives .weight fs s)

/-- The ZERO request arrives (R41, log 8). -/
def execZero (fs : List Text) (s : State) : Host.Outcome State Fault Refusal :=
  .next (requestArrives .zero fs s)

/-- A platform's capture timer expires (R50). -/
def execCaptureTimerExpiry (p : Platform) (s : State) : Host.Outcome State Fault Refusal :=
  .next (event (captureFires p) s)

/-- The sync pulse ends (R13). -/
def execSyncPulseEnd (s : State) : Host.Outcome State Fault Refusal :=
  .next (event syncPulseEnds s)

end Sys2Proof.Machine
end

