-- ==== Sys2Proof/Machine/Dispatch.lean ====
section
/-! DEFINITION. The dispatch: one arm for each command. -/

namespace Sys2Proof.Machine

def exec (i : Instr) (s : State) : Host.Outcome State Fault Refusal :=
  match i with
  | .digitiserBurstEnd d bytes => Sys2Proof.Machine.execDigitiserBurstEnd d bytes s
  | .frameTimerExpiry d => Sys2Proof.Machine.execFrameTimerExpiry d s
  | .consumeFrame d => Sys2Proof.Machine.execConsumeFrame d s
  | .consumePair => Sys2Proof.Machine.execConsumePair s
  | .diag fs => Sys2Proof.Machine.execDiag fs s
  | .weight fs => Sys2Proof.Machine.execWeight fs s
  | .zero fs => Sys2Proof.Machine.execZero fs s
  | .captureTimerExpiry p => Sys2Proof.Machine.execCaptureTimerExpiry p s
  | .inputRawChange input high => Sys2Proof.Machine.execInputRawChange input high s
  | .debounceExpiry input => Sys2Proof.Machine.execDebounceExpiry input s
  | .inputOverride fs => Sys2Proof.Machine.execInputOverride fs s
  | .inputs fs => Sys2Proof.Machine.execInputs fs s
  | .travelTimerExpiry b => Sys2Proof.Machine.execTravelTimerExpiry b s
  | .barrierReset fs => Sys2Proof.Machine.execBarrierReset fs s
  | .readerReportEnd chars begunStarting => Sys2Proof.Machine.execReaderReportEnd chars begunStarting s
  | .repeatHoldExpiry r => Sys2Proof.Machine.execRepeatHoldExpiry r s
  | .gateHoldExpiry g => Sys2Proof.Machine.execGateHoldExpiry g s
  | .admitVehicle fs => Sys2Proof.Machine.execAdmit fs s
  | .refuse fs => Sys2Proof.Machine.execRefuse fs s
  | .gateOpen fs => Sys2Proof.Machine.execGateOpen fs s
  | .grant p => Sys2Proof.Machine.execGrant p s
  | .callTimerExpiry p => Sys2Proof.Machine.execCallTimerExpiry p s
  | .platformRetry fs => Sys2Proof.Machine.execPlatformRetry fs s
  | .platformRelease fs => Sys2Proof.Machine.execPlatformRelease fs s
  | .platformAbort fs => Sys2Proof.Machine.execPlatformAbort fs s
  | .platformAccept fs => Sys2Proof.Machine.execPlatformAccept fs s
  | .platformMode fs => Sys2Proof.Machine.execPlatformMode fs s
  | .platform fs => Sys2Proof.Machine.execPlatform fs s
  | .signMessageSent => Sys2Proof.Machine.execSignMessageSent s
  | .call fs => Sys2Proof.Machine.execCall fs s
  | .queue fs => Sys2Proof.Machine.execQueue fs s
  | .vehicleGet fs => Sys2Proof.Machine.execVehicleGet fs s
  | .vehiclePut fs => Sys2Proof.Machine.execVehiclePut fs s
  | .vehicleDelete fs => Sys2Proof.Machine.execVehicleDelete fs s
  | .accountGet fs => Sys2Proof.Machine.execAccountGet fs s
  | .accountPut fs => Sys2Proof.Machine.execAccountPut fs s
  | .accountStatus fs => Sys2Proof.Machine.execAccountStatus fs s
  | .accountDelete fs => Sys2Proof.Machine.execAccountDelete fs s
  | .visitResolve fs => Sys2Proof.Machine.execVisitResolve fs s
  | .cancel fs => Sys2Proof.Machine.execCancel fs s
  | .holdVisit fs => Sys2Proof.Machine.execHoldVisit fs s
  | .requeue fs => Sys2Proof.Machine.execRequeue fs s
  | .visit fs => Sys2Proof.Machine.execVisit fs s
  | .visitList fs => Sys2Proof.Machine.execVisitList fs s
  | .journalRead fs => Sys2Proof.Machine.execJournalRead fs s
  | .journalRelease fs => Sys2Proof.Machine.execJournalRelease fs s
  | .ticketTextSent p => Sys2Proof.Machine.execTicketTextSent p s
  | .printerStatusChar p c => Sys2Proof.Machine.execPrinterStatusChar p c s
  | .statusTimerExpiry p => Sys2Proof.Machine.execStatusTimerExpiry p s
  | .enquiryTimerExpiry p => Sys2Proof.Machine.execEnquiryTimerExpiry p s
  | .printSuppress fs => Sys2Proof.Machine.execPrintSuppress fs s
  | .reprint fs => Sys2Proof.Machine.execReprint fs s
  | .oneSecondTick => Sys2Proof.Machine.execOneSecondTick s
  | .timeSet fs => Sys2Proof.Machine.execTimeSet fs s
  | .linkWatch fs => Sys2Proof.Machine.execLinkWatch fs s
  | .silenceTimerExpiry => Sys2Proof.Machine.execSilenceTimerExpiry s
  | .officeFrameEnd chars => Sys2Proof.Machine.execOfficeFrameEnd chars s
  | .frameGapTimeout => Sys2Proof.Machine.execFrameGapTimeout s
  | .officeFrameSent u => Sys2Proof.Machine.execOfficeFrameSent u s
  | .noticeEnable fs => Sys2Proof.Machine.execNoticeEnable fs s
  | .status fs => Sys2Proof.Machine.execStatus fs s
  | .settingsRead fs => Sys2Proof.Machine.execSettingsRead fs s
  | .settingsWrite fs => Sys2Proof.Machine.execSettingsWrite fs s
  | .settingsTransferAck => Sys2Proof.Machine.execSettingsTransferAck s
  | .settingsTransferTimeout => Sys2Proof.Machine.execSettingsTransferTimeout s
  | .powerOn bkok kept u => Sys2Proof.Machine.execPowerOn bkok kept u s
  | .resetInput u => Sys2Proof.Machine.execResetInput u s
  | .restart fs => Sys2Proof.Machine.execRestart fs s
  | .officeLinkStart => Sys2Proof.Machine.execOfficeLinkStart s
  | .startingEnd => Sys2Proof.Machine.execStartingEnd s
  | .readerReportAbandoned report => Sys2Proof.Machine.execReaderReportAbandoned report s
  | .syncPulseEnd => Sys2Proof.Machine.execSyncPulseEnd s

end Sys2Proof.Machine
end

