-- ==== Sys2Proof/Safety.lean ====
section
/-! DEFINITION. What counts as a sound state: the laws of the manual that every step keeps; and the words the statements use. -/

namespace Sys2Proof.Machine

/-! ## Laws that every step keeps -/

/-- The settings memory is in canonical form (section 13.6). -/
def State.memSound (s : State) : Prop := memWf s.settings.mem = true

/-- Every barrier's outputs follow its state and its lamp command (R63, R70). -/
def State.drivesFollow (s : State) : Prop := ∀ b : Barrier, s.drives.get b = driveOf (s.bars.get b)

/-- No barrier lowers under a broken beam (R63). -/
def State.beamsSafe (s : State) : Prop :=
  ∀ b : Barrier, (s.bars.get b).state = .lowering → s.beamBroken b = false

/-- While the part runs, a deck's beacon is lit exactly while its platform is in HOLD or blocked (R120). -/
def State.beaconsFollow (s : State) : Prop := s.running = true → ∀ d : Deck, s.beacons.get d = beaconOn s d

/-- The sign line: at most one message waits for each sign, and none waits while the line is idle (R118). -/
def State.signsSound (s : State) : Prop :=
  (s.plat.signs.waiting.map (·.1)).Nodup ∧ (s.plat.signs.sending = none → s.plat.signs.waiting = [])

/-- A latched class is an enabled class (R207). -/
def ClassRec.sound (r : ClassRec) : Prop := r.latched = true → r.enabled = true

/-- The office link's queues and counter are within their bounds, its latches belong to enabled classes (R203, R207), and the gap
timer runs exactly inside a frame (R201), in STARTING too (log 47), of which the assembly keeps no more than 245 characters
(log 44). -/
def State.linkSound (s : State) : Prop :=
  s.link.notices.length ≤ 16 ∧ s.link.owed.length ≤ 16 ∧ s.link.discards ≤ 65535 ∧
    (∀ c : NoticeClass, (s.link.classes.get c).sound) ∧
    s.link.assembly.length ≤ 245 ∧ (s.link.gap = none ↔ s.link.assembly = [])

/-- A frame waits only behind one in service (R203), and the transmitter is idle only when nothing is to be sent (R206). -/
def State.transmitterSound (s : State) : Prop :=
  (s.link.waiting ≠ none → s.link.inService ≠ none) ∧
    (s.link.sending = none → s.link.inService = none ∧ s.link.owed = [] ∧ s.link.notices = [])

/-- Diagnostic counters within their range (R17). -/
def Counters.sound (c : Counters) : Prop :=
  c.badFrames ≤ 65535 ∧ c.dropped ≤ 65535 ∧ c.gaps ≤ 65535 ∧ c.pairSlips ≤ 65535 ∧ c.refills ≤ 65535 ∧
    c.staleEvents ≤ 65535

/-- An intake holds at most 8 frames, none in REFILL, and its counters are in range (R8, R13, R17). -/
def Intake.sound (i : Intake) : Prop := i.entries.length ≤ 8 ∧ (i.refill = true → i.entries = []) ∧ i.counts.sound

/-- The intakes are sound, and READER_ERRORS is in range (R75). -/
def State.intakesSound (s : State) : Prop := (∀ d : Deck, (s.intakes.get d).sound) ∧ s.readerErrors ≤ 65535

/-- Each platform's working zero stands within its zero limit (R37). -/
def State.zerosSound (s : State) : Prop := ∀ p : Platform, s.withinLimit p (s.chains.get p).z = true

/-- The capture and ticket numbers the part gives out next are in range (R45, R173). -/
def State.numbersSound (s : State) : Prop :=
  (1 ≤ s.nextCapture ∧ s.nextCapture ≤ 999999) ∧ 1 ≤ s.tickets.nextTicket ∧ s.tickets.nextTicket ≤ 999999

/-- An id a visit may have (R154). -/
def idInRange (n : Nat) : Prop := 1 ≤ n ∧ n ≤ 65535

/-- At most 32 visits are open, each under an id of its own from 1 to 65,535 (R153, R154). -/
def State.visitsSound (s : State) : Prop :=
  s.visits.table.length ≤ 32 ∧ (s.visits.table.map (·.id)).Nodup ∧ (∀ v ∈ s.visits.table, idInRange v.id) ∧
    idInRange s.visits.nextId

/-- The vehicle table has slots 0 to 1023 and tags of which no two are equal; the account table has numbers 0 to 127 and
always account 0 (R136, R141, R152). -/
def State.tablesSound (s : State) : Prop :=
  ((s.tables.vehicles.map (·.1)).Pairwise (· < ·) ∧ (∀ e ∈ s.tables.vehicles, e.1 < 1024) ∧
    (s.tables.vehicles.map (·.2.tag)).Nodup) ∧
  ((s.tables.accounts.map (·.1)).Pairwise (· < ·) ∧ (∀ e ∈ s.tables.accounts, e.1 ≤ 127) ∧ (s.account 0).isSome = true)

/-- A print queue holds at most 4 tickets (R179). -/
def State.printersSound (s : State) : Prop := ∀ p : Printer, (s.tickets.printers.get p).queue.length ≤ 4

/-- The day clock is in range (R190), the watch's period is from 5 to 300 s (R195), the silence timer runs exactly while the watch
is armed and the part ONLINE, and the part is OFFLINE only with the watch armed (R196, section 11.3). -/
def State.clockSound (s : State) : Prop :=
  (s.time.second ≤ 86399 ∧ s.time.day ≤ 65535 ∧ s.time.subMs ≤ 999) ∧
    (∀ p, s.watch.period = some p → 5 ≤ p ∧ p ≤ 300) ∧
    (s.watch.timer ≠ none ↔ s.watch.period ≠ none ∧ s.watch.online = true) ∧
    (s.watch.online = false → s.watch.period ≠ none)

/-- The visits of the call queue, oldest first, whatever their grant marks. -/
def State.queued (s : State) : List Nat := s.alloc.queue.map (·.visit)

/-- A visit is in the call queue exactly when it is QUEUED, and once (R123). -/
def State.queueSound (s : State) : Prop :=
  s.queued.Nodup ∧ ∀ id, id ∈ s.queued ↔ ∃ v ∈ s.visits.table, v.id = id ∧ v.state = .queued

/-- What a platform's record allows of the state of the visit bound to it (R108, R157); one that lets the vehicle go knows where it
goes. -/
def PlatRec.allows (r : PlatRec) (st : VisitState) : Prop := match r.state with
  | .free => False
  | .switching => False
  | .calling => st = .called
  | .entering => st = .onDeck
  | .positioning => st = .onDeck
  | .weighing => st = .onDeck
  | .awaiting => st = .query ∨ st = .printWait
  | .exiting => st = .onDeck ∧ r.outcome ≠ none
  | .hold => match r.resume with
    | none => False
    | some .none => st = .called
    | some .positioning => st = .onDeck
    | some .awaiting => st = .query ∨ st = .printWait
    | some .exit => st = .onDeck ∧ r.outcome ≠ none

/-- The four states of a bound visit (R157). -/
def VisitState.bound (st : VisitState) : Prop := st = .called ∨ st = .onDeck ∨ st = .query ∨ st = .printWait

/-- Bound visits and platforms agree (R157): a platform with a visit is of the current mode, and the visit is open in a state that
its record allows; one without is FREE or SWITCHING; no visit is bound twice, and each visit in a bound state is bound. The
platforms of the current mode are SWITCHING exactly while a switch goes on (R115), and a capture is open only in WEIGHING (R46). -/
def State.bindingsSound (s : State) : Prop :=
  (∀ p id, (s.platRec p).visit = some id →
    s.current p = true ∧ ∃ v ∈ s.visits.table, v.id = id ∧ (s.platRec p).allows v.state) ∧
  (∀ p, (s.platRec p).visit = none → (s.platRec p).state = .free ∨ (s.platRec p).state = .switching) ∧
  (∀ p q id, (s.platRec p).visit = some id → (s.platRec q).visit = some id → p = q) ∧
  (∀ v ∈ s.visits.table, v.state.bound → ∃ p, (s.platRec p).visit = some v.id) ∧
  (∀ p, (s.platRec p).state = .switching ↔ s.current p = true ∧ s.plat.target ≠ none) ∧
  (∀ p, (s.chains.get p).capture ≠ none → s.current p = true ∧ (s.platRec p).state = .weighing)

/-- No two open visits carry one tag, nor does an open visit carry the tag that waits for the office (R153); the exit gate is open
for no visit but a CLEARED one (R89), and for none once that visit has left the table (log 36). -/
def State.tagsSound (s : State) : Prop :=
  (s.visits.table.map (·.tag)).Nodup ∧
  (∀ tag, s.gates.entry.state = .waitHost → s.gates.entry.pendingTag = some tag → ∀ v ∈ s.visits.table, v.tag ≠ tag) ∧
  (∀ id, s.gates.exit.openFor = some id → ∃ v ∈ s.visits.table, v.id = id ∧ v.state = .cleared)

/-- The laws of the visits, the call queue, the platforms that bind them and the gates, which hold together (R123, R153, R157). -/
def State.yardSound (s : State) : Prop := s.visitsSound ∧ s.queueSound ∧ s.bindingsSound ∧ s.tagsSound

/-- The vehicle of a visit is on its way off a platform with its transaction made (R164, R166). -/
def State.leavesCleared (s : State) (id : Nat) : Prop :=
  ∃ p, (s.platRec p).visit = some id ∧ (s.platRec p).outcome = some .nextCleared ∧
    ((s.platRec p).state = .exiting ∨ (s.platRec p).state = .hold ∧ (s.platRec p).resume = some .exit)

/-- The books: each open visit's account is in the table; an account's reserved is the sum of the estimates of its unjournalled open
visits, and that of account 0 is 0 (R146); the journal's 256 places take its entries and one more for each unjournalled open visit
(R174); and a visit is journalled exactly when it is CLEARED or leaves the deck to be so (R164, R166). -/
def State.booksSound (s : State) : Prop :=
  (∀ v ∈ s.visits.table, (s.account v.account).isSome = true) ∧
  (∀ n a, s.account n = some a → a.reserved =
    if n = 0 then 0
    else ((s.visits.table.filter fun v => v.account == n && !v.journalled).map (·.estimate)).sum) ∧
  s.tickets.journal.length + (s.visits.table.filter fun v => !v.journalled).length ≤ 256 ∧
  (∀ v ∈ s.visits.table, v.journalled = true ↔ v.state = .cleared ∨ s.leavesCleared v.id)

/-- A law that every step keeps: from any state that meets it, a step leads to a state that meets it. -/
def keptByStep (law : State → Prop) : Prop := ∀ s t : State, law s → step s = .next t → law t

/-! ## Words for the statements -/

/-- The part takes a request at once: it runs, ONLINE, with the office link started, nothing in service and no refusal owed
(R203, R204). -/
abbrev State.ready (s : State) : Prop :=
  s.running = true ∧ s.watch.online = true ∧ s.link.started = true ∧ s.link.inService = none ∧ s.link.owed = []

/-- The state once a frame with good framing has restarted the link silence timer (R196). -/
def State.heard (s : State) : State := { s with watch := { s.watch with timer := s.watch.period.map fun p => p * 1000 } }

/-- A transmitter that sends what it was sending, or else the reply (R206). -/
def sendNext (r : Reply) (sending : Option TxFrame) : Option TxFrame := match sending with
  | some f => some f
  | none => some (.reply ⟨r, false⟩)

/-- The state with a reply in service, the link silence timer restarted, and no frame in assembly (R196, R201, R203, R206). -/
def State.answered (s : State) (r : Reply) : State :=
  { s with
    watch := { s.watch with timer := s.watch.period.map fun p => p * 1000 },
    link := { s.link with
      assembly := [], gap := none, inService := some ⟨r, false⟩, sending := sendNext r s.link.sending } }

/-- Between two states a request is answered OK with its fields: the silence timer is restarted, no frame is in assembly, and the
reply is in service and sent next (R196, R201, R203, R206). -/
def repliedOk (fields : List Field) (s t : State) : Prop :=
  t.link.inService = some ⟨.ok fields, false⟩ ∧ t.link.sending = sendNext (.ok fields) s.link.sending ∧
    t.link.assembly = [] ∧ t.link.gap = none ∧ t.watch = s.heard.watch

/-- Characters that arrive over what the frame assembly holds end a frame (R200, R201): what comes before a '<' without a framing
error is discarded, and the frame runs from that '<' to its first CR. -/
def arrivesAs (held chars frame : List RxByte) : Prop :=
  ∃ (junk body : List RxByte) (start cr : RxByte), held ++ chars = junk ++ frame ∧ frame = start :: (body ++ [cr]) ∧
    (∀ c ∈ junk, c.code ≠ 0x3C ∨ c.faulty = true) ∧ start.code = 0x3C ∧ start.faulty = false ∧
    (∀ c ∈ body, c.code ≠ 0x0D) ∧ cr.code = 0x0D

/-- The request a command brings (section 12.4): its name and its fields. -/
def requestRow (c : Instr) : Option (ReqName × List Text) := match c with
  | .diag fs => some (.diag, fs)
  | .weight fs => some (.weight, fs)
  | .zero fs => some (.zero, fs)
  | .inputOverride fs => some (.inputOverride, fs)
  | .inputs fs => some (.inputs, fs)
  | .barrierReset fs => some (.barrierReset, fs)
  | .admitVehicle fs => some (.admitVehicle, fs)
  | .refuse fs => some (.refuse, fs)
  | .gateOpen fs => some (.gateOpen, fs)
  | .platformRetry fs => some (.platformRetry, fs)
  | .platformRelease fs => some (.platformRelease, fs)
  | .platformAbort fs => some (.platformAbort, fs)
  | .platformAccept fs => some (.platformAccept, fs)
  | .platformMode fs => some (.platformMode, fs)
  | .platform fs => some (.platform, fs)
  | .call fs => some (.call, fs)
  | .queue fs => some (.queue, fs)
  | .vehicleGet fs => some (.vehicleGet, fs)
  | .vehiclePut fs => some (.vehiclePut, fs)
  | .vehicleDelete fs => some (.vehicleDelete, fs)
  | .accountGet fs => some (.accountGet, fs)
  | .accountPut fs => some (.accountPut, fs)
  | .accountStatus fs => some (.accountStatus, fs)
  | .accountDelete fs => some (.accountDelete, fs)
  | .visitResolve fs => some (.visitResolve, fs)
  | .cancel fs => some (.cancel, fs)
  | .holdVisit fs => some (.holdVisit, fs)
  | .requeue fs => some (.requeue, fs)
  | .visit fs => some (.visit, fs)
  | .visitList fs => some (.visitList, fs)
  | .journalRead fs => some (.journalRead, fs)
  | .journalRelease fs => some (.journalRelease, fs)
  | .printSuppress fs => some (.printSuppress, fs)
  | .reprint fs => some (.reprint, fs)
  | .timeSet fs => some (.timeSet, fs)
  | .linkWatch fs => some (.linkWatch, fs)
  | .noticeEnable fs => some (.noticeEnable, fs)
  | .status fs => some (.status, fs)
  | .settingsRead fs => some (.settingsRead, fs)
  | .settingsWrite fs => some (.settingsWrite, fs)
  | .restart fs => some (.restart, fs)
  | _ => none

/-- What a tick that has been counted brings due (R13, R188): the expiry of each timer that has come to 0, and the end of the sync
pulse. -/
def State.due (s : State) (c : Instr) : Prop := match c with
  | .syncPulseEnd => s.sync = true
  | .frameTimerExpiry d => (s.intakes.get d).timer = some 0
  | .debounceExpiry i => (s.inputs.input i).debounce = some 0
  | .travelTimerExpiry b => (s.bars.get b).timer = some 0
  | .repeatHoldExpiry r => (s.recent.get r).hold = .running 0
  | .gateHoldExpiry g => (s.gates.get g).timer = some 0
  | .callTimerExpiry p => (s.platRec p).callTimer = some 0
  | .captureTimerExpiry p => ∃ k, (s.chains.get p).capture = some k ∧ k.timer = 0
  | .statusTimerExpiry p => (s.printer p).statusTimer = some 0
  | .enquiryTimerExpiry p => (s.printer p).enquiryTimer = some 0
  | .frameGapTimeout => s.link.gap = some 0
  | .silenceTimerExpiry => s.watch.timer = some 0
  | .settingsTransferTimeout => ∃ w, s.settings.write = some w ∧ w.timer = 0
  | _ => False

/-- Between two states every running timer is one tick nearer its end, and nothing else differs (R188), but that the time spent
OFFLINE is one longer (R197). -/
def countsDown (s t : State) : Prop :=
  t = { s with
    intakes := t.intakes, chains := t.chains, inputs := t.inputs, bars := t.bars, recent := t.recent, gates := t.gates,
    plat := t.plat, tickets := t.tickets, watch := t.watch, link := t.link, settings := t.settings } ∧
  (∀ d, t.intakes.get d = { s.intakes.get d with timer := (s.intakes.get d).timer.map fun n => n - 1 }) ∧
  (∀ p, t.chains.get p = { s.chains.get p with
    capture := (s.chains.get p).capture.map fun k => { k with timer := k.timer - 1 } }) ∧
  (∀ i, t.inputs.input i = { s.inputs.input i with debounce := (s.inputs.input i).debounce.map fun n => n - 1 }) ∧
  (∀ b, t.bars.get b = { s.bars.get b with timer := (s.bars.get b).timer.map fun n => n - 1 }) ∧
  (∀ r, (t.recent.get r).tag = (s.recent.get r).tag ∧
    (∀ n, (s.recent.get r).hold = .running n → (t.recent.get r).hold = .running (n - 1)) ∧
    ((∀ n, (s.recent.get r).hold ≠ .running n) → (t.recent.get r).hold = (s.recent.get r).hold)) ∧
  (∀ g, t.gates.get g = { s.gates.get g with timer := (s.gates.get g).timer.map fun n => n - 1 }) ∧
  (t.plat = { s.plat with recs := t.plat.recs } ∧
    ∀ p, t.platRec p = { s.platRec p with callTimer := (s.platRec p).callTimer.map fun n => n - 1 }) ∧
  (t.tickets = { s.tickets with printers := t.tickets.printers } ∧
    ∀ p, t.printer p = { s.printer p with
      statusTimer := (s.printer p).statusTimer.map fun n => n - 1,
      enquiryTimer := (s.printer p).enquiryTimer.map fun n => n - 1 }) ∧
  t.watch = { s.watch with
    timer := s.watch.timer.map fun n => n - 1,
    offlineMs := if s.watch.online then s.watch.offlineMs else s.watch.offlineMs + 1 } ∧
  t.link = { s.link with gap := s.link.gap.map fun n => n - 1 } ∧
  t.settings = { s.settings with write := s.settings.write.map fun w => { w with timer := w.timer - 1 } }

/-- The end of the input's debounce brings it to a new level, no override being in force (R55, R56). -/
abbrev State.brings (s : State) (i : InputId) (active : Bool) : Prop :=
  (s.inputs.input i).debounce ≠ none ∧ (s.inputs.input i).override = .none ∧ (s.inputs.input i).deb = !active ∧
    s.rawLevel i = active

/-- The inputs once the input has come to a level (R55). -/
def State.inputsWith (s : State) (i : InputId) (active : Bool) : PerBarrier (PerLine Input) :=
  s.inputs.setInput i { s.inputs.input i with deb := active, debounce := none }

/-- A barrier's record after a raise request (R65). -/
def Bar.raised (ms : Nat) (r : Bar) : Bar := match r.state with
  | .down => { r with state := .raising, lowerPending := false, timer := some ms }
  | .lowering => { r with state := .raising, lowerPending := false, timer := some ms }
  | .raising => { r with lowerPending := false }
  | .up => { r with lowerPending := false }
  | .fault => r

/-- A barrier's record after a lower request (R66), by its beam. -/
def Bar.lowered (broken : Bool) (ms : Nat) (r : Bar) : Bar := match r.state with
  | .raising => if broken then { r with lowerPending := true } else
      { r with state := .lowering, lowerPending := false, lamp := false, timer := some ms }
  | .up => if broken then { r with lowerPending := true } else
      { r with state := .lowering, lowerPending := false, lamp := false, timer := some ms }
  | .down => r
  | .lowering => r
  | .fault => r

/-- The user of a barrier asks it down when it finds it restored to UP: a gate in CLOSED (R85), and a platform in FREE of its
entry and exit barriers (R96). -/
def State.userWantsDown (s : State) (b : Barrier) : Prop :=
  (∃ g, b = gateBar g ∧ (s.gates.get g).state = .closed) ∨
    ∃ p, s.platUser b = some p ∧ (s.platRec p).state = .free ∧ (p = .ab → b ≠ .aS ∧ b ≠ .bN)

/-- The user of a barrier asks it up when it finds it restored to DOWN or LOWERING: platform AB, outside SWITCHING, of its inner
barriers (R95). -/
def State.userWantsUp (s : State) (b : Barrier) : Prop :=
  s.platUser b = some .ab ∧ (b = .aS ∨ b = .bN) ∧ (s.platRec .ab).state ≠ .switching

/-- A barrier's record after a raise request and a lamp-on command (R65, R70). -/
def State.raisedLit (s : State) (b : Barrier) : Bar := { Bar.raised s.travelMs (s.bars.get b) with lamp := true }

/-- A barrier's record after a lower request and a lamp-off command (R66, R70). -/
def State.loweredDark (s : State) (b : Barrier) : Bar :=
  { Bar.lowered (s.beamBroken b) s.travelMs (s.bars.get b) with lamp := false }

/-- The state with a barrier in FAULT with a cause, its outputs off (R69). -/
def State.faulted (s : State) (b : Barrier) (cause : FaultCause) : State :=
  { s with
    bars := s.bars.set b { state := .fault, lowerPending := false, lamp := false, cause := some cause, timer := none },
    drives := s.drives.set b { raise := false, lower := false, green := false } }

/-- A command takes a barrier into FAULT (R69): its travel timer expires, or one of its limits becomes active while the other is.
The barrier and its outputs are so in f, where nothing else has been done yet. -/
def State.faults (s : State) (c : Instr) (b : Barrier) (f : State) : Prop :=
  (c = .travelTimerExpiry b ∧ (s.bars.get b).timer ≠ none ∧
    ((s.bars.get b).state = .raising ∧ f = s.faulted b .travelRaise ∨
      (s.bars.get b).state = .lowering ∧ f = s.faulted b .travelLower)) ∨
  (∃ l other, (l = Line.up ∧ other = Line.down ∨ l = .down ∧ other = .up) ∧ c = .debounceExpiry ⟨b, l⟩ ∧
    s.brings ⟨b, l⟩ true ∧ s.effective b other = true ∧ (s.bars.get b).state ≠ .fault ∧
    f = State.faulted { s with inputs := s.inputsWith ⟨b, l⟩ true } b .limits)

/-- The record of a gate that is CLOSED (R83, R84, R86). -/
def gateClosed : GateRec := { state := .closed, openFor := none, seen := false, pendingTag := none, timer := none }

/-- The state with a gate open for a visit or for none: its record, its barrier and the barrier's outputs (R81, R83, R91). -/
def State.opened (s : State) (g : Gate) (visit : Option Nat) : State :=
  { s with
    bars := s.bars.set (gateBar g) (s.raisedLit (gateBar g)),
    drives := s.drives.set (gateBar g) (driveOf (s.raisedLit (gateBar g))),
    gates := s.gates.set g
      { state := .opened, openFor := visit, seen := s.beamBroken (gateBar g), pendingTag := none,
        timer := if s.beamBroken (gateBar g) then none else some (s.settings.yard.gateHold * 1000) } }

/-- Between two states no platform but p changes: the mode, the target, the accepting flags and the other records stand. -/
def onlyPlatform (p : Platform) (s t : State) : Prop :=
  t.plat.mode = s.plat.mode ∧ t.plat.target = s.plat.target ∧ t.plat.accepting = s.plat.accepting ∧
    ∀ q : Platform, q ≠ p → t.plat.recs.get q = s.plat.recs.get q

/-- Between two states no barrier outside the list changes, nor its outputs. -/
def onlyBarriers (bs : List Barrier) (s t : State) : Prop :=
  ∀ b : Barrier, b ∉ bs → t.bars.get b = s.bars.get b ∧ t.drives.get b = s.drives.get b

/-- Between two states no visit but the one with the id changes, and the table keeps its order. -/
def onlyVisit (id : Nat) (s t : State) : Prop :=
  t.visits.nextId = s.visits.nextId ∧
    t.visits.table.filter (fun v => v.id != id) = s.visits.table.filter (fun v => v.id != id)

/-- The supervision record of a cell after a channel with an OK status and its sample, or a bad one (R6, R7). -/
def Cell.after (faultAt clearAt : Nat) (ch : Bool × Int) (c : Cell) : Cell :=
  if ch.1 then
    { faulted := c.faulted && !(clearAt ≤ min 255 (c.goodRun + 1)), badRun := 0, goodRun := min 255 (c.goodRun + 1),
      last := ch.2 }
  else
    { faulted := c.faulted || faultAt ≤ min 255 (c.badRun + 1), badRun := min 255 (c.badRun + 1), goodRun := 0,
      last := c.last }

/-- The cells of a deck after a frame's channels (R6, R7). -/
def State.cellsAfter (s : State) (d : Deck) (f : RawFrame) : List Cell :=
  List.zipWith (Cell.after s.settings.weigh.faultThreshold s.settings.weigh.clearThreshold) f.channels (s.intakes.get d).cells

/-- The intake entry a frame makes (R6, R8): the last good sample stands for a bad channel's. -/
def State.entryOf (s : State) (d : Deck) (f : RawFrame) : FrameEntry :=
  { counter := f.counter,
    samples := List.zipWith (fun (ch : Bool × Int) c => if ch.1 then ch.2 else c.last) f.channels (s.intakes.get d).cells,
    badChannel := f.channels.any fun ch => !ch.1, cellFault := (s.cellsAfter d f).any fun c => c.faulted }

/-- The chain of platform p after a result from a frame or pair of this fine weight and these marks (R24 to R32). -/
def State.chainAfter (s : State) (p : Platform) (unclamped : Int) (cellFault badChannel : Bool) : Chain :=
  produceResult s.settings.weigh.n s.settings.weigh.m s.settings.weigh.band (s.resultContext p cellFault badChannel) unclamped
    (s.chains.get p)

/-- A platform's chain takes a result from a fine weight in grams, which is not clamped yet, and the marks of its frame or pair:
the filter (R24), the stability window and STABLE (R26), A (R27), W (R28), the indications (R29, R30), the sequence counter (R31)
and VALID (R32). -/
def State.weighs (s : State) (p : Platform) (grams : Int) (cellFault badChannel : Bool) (before after : Chain) : Prop :=
  ∃ (f a w : Int) (ovl udl : Bool),
    after.window = pushWindow s.settings.weigh.n before.window (max (-999999999) (min 999999999 grams)) ∧
    f = roundDiv (after.window.foldl (· + ·) 0) after.window.length ∧
    after.stab = pushWindow s.settings.weigh.m before.stab f ∧
    a = f - before.z ∧ w = roundDiv a (1000 * s.divisionOf p) * s.divisionOf p ∧
    (ovl = true ↔ (s.maxOf p + 9 * s.divisionOf p : Nat) < w ∨ 999999999 < grams) ∧
    (udl = true ↔ w < -(20 * s.divisionOf p : Nat) ∨ grams < -999999999) ∧
    after.seq = (if before.seq < 65535 then before.seq + 1 else 0) ∧ after.z = before.z ∧ after.zeroRange = before.zeroRange ∧
    after.pendingZero = false ∧ after.capture = before.capture ∧ after.latest.seq = after.seq ∧ after.latest.a = some a ∧
    after.latest.w = (if ovl || udl then none else some w) ∧ after.latest.flags.overload = ovl ∧
    after.latest.flags.underload = udl ∧ after.latest.flags.stale = false ∧ after.latest.flags.refill = false ∧
    (after.latest.flags.stable = true ↔ after.stab.length = s.settings.weigh.m ∧
      ∀ x ∈ after.stab, ∀ y ∈ after.stab, x - y ≤ (s.settings.weigh.band * s.divisionOf p * 100 : Nat)) ∧
    (after.latest.flags.zeroCentre = true ↔ a.natAbs ≤ 250 * s.divisionOf p) ∧
    (after.latest.flags.aboveMax = true ↔ ovl = false ∧ udl = false ∧ (s.maxOf p : Int) < w) ∧
    (after.latest.flags.belowMin = true ↔ ovl = false ∧ udl = false ∧ w < (20 * s.divisionOf p : Nat)) ∧
    (after.latest.flags.clamped = true ↔ 999999999 < grams ∨ grams < -999999999) ∧
    (after.latest.flags.uncalibrated = true ↔ s.calibrated p = false) ∧
    (after.latest.flags.valid = true ↔ (∀ d ∈ platformDecks p, (s.intakes.get d).link = .running) ∧ cellFault = false ∧
      badChannel = false ∧ s.calibrated p = true ∧ (p = .ab → s.intakes.a.refill = false ∧ s.intakes.b.refill = false) ∧
      after.latest.flags.clamped = false ∧ ovl = false ∧ udl = false)

/-- The engine is about to give platform p a result of this fine weight and these marks: in SPLIT mode from the head of its deck's
intake (R11), in COMBINED mode from two heads with one counter (R12, R23). It leaves the intakes so. -/
def State.feeds (s : State) (c : Instr) (p : Platform) (grams : Int) (cellFault badChannel : Bool) (left : PerDeck Intake) : Prop :=
  s.running = true ∧
  ((∃ d e rest, c = .consumeFrame d ∧ p = deckPlatform d ∧ s.plat.mode = .split ∧ s.suspended d = false ∧
      (s.intakes.get d).entries = e :: rest ∧ grams = fineWeight e.samples (s.settings.cal.get d) ∧ cellFault = e.cellFault ∧
      badChannel = e.badChannel ∧ left = s.intakes.set d { s.intakes.get d with entries := rest }) ∨
    (∃ ea ra eb rb, c = .consumePair ∧ p = .ab ∧ s.plat.mode = .combined ∧ s.suspended .a = false ∧ s.suspended .b = false ∧
      s.intakes.a.entries = ea :: ra ∧ s.intakes.b.entries = eb :: rb ∧ ea.counter = eb.counter ∧
      grams = fineWeight ea.samples s.settings.cal.a + fineWeight eb.samples s.settings.cal.b ∧
      cellFault = (ea.cellFault || eb.cellFault) ∧ badChannel = (ea.badChannel || eb.badChannel) ∧
      left = { a := { s.intakes.a with entries := ra }, b := { s.intakes.b with entries := rb } }))

/-- The weighing record a capture on platform p gives (R45, R52). -/
def State.recordOf (s : State) (p : Platform) (w : Int) : WeighRec :=
  { weight := w, number := s.nextCapture, platform := p, day := s.time.day, second := s.time.second, unset := !s.time.valid }

/-- The number after a capture or ticket number (R45, R173). -/
def numberAfter (n : Nat) : Nat := if n < 999999 then n + 1 else 1

/-- A counter of R17 or R203 after one more event. -/
def countAfter (n : Nat) : Nat := if n < 65535 then n + 1 else 65535

/-- An intake in which REFILL starts (R13). -/
def Intake.emptied (i : Intake) : Intake :=
  { i with entries := [], refill := true, counts := { i.counts with refills := countAfter i.counts.refills } }

/-- The chain of platform AB at the start of REFILL (R33, R49). -/
def Chain.inRefill (ch : Chain) : Chain :=
  { ch with
    latest := { ch.latest with flags := { ch.latest.flags with valid := false, refill := true } },
    capture := ch.capture.map fun k => { k with lastReason := some .invalid } }

/-- No grantable platform without a grant in flight has an eligible visit among the unmarked entries of the queue (R128). -/
def State.noneLeft (s : State) : Prop :=
  ∀ p, s.grantable p = true → s.alloc.flight.get p = none →
    ∀ e ∈ s.alloc.queue, e.mark = none → ∀ v, s.visitById e.visit = some v → s.eligible v p = false

/-- Between two states a mode switch completes (R14, R34, R115): every platform FREE in the new mode, with a new mode's results. -/
def switches (m : Mode) (s t : State) : Prop :=
  t.plat.mode = m ∧ t.plat.target = none ∧ (∀ p, t.platRec p = PlatRec.free (s.settings.plat.ends.get p)) ∧
  (m = .combined →
    t.chains.ab.z = s.chains.a.z + s.chains.b.z ∧ t.chains.ab.window = [] ∧ t.chains.ab.stab = [] ∧
    t.chains.ab.latest.w = none ∧ t.chains.a = s.chains.a ∧ t.chains.b = s.chains.b ∧
    t.intakes.a.refill = true ∧ t.intakes.b.refill = true ∧ t.sync = true) ∧
  (m = .split →
    t.chains.ab = s.chains.ab ∧ t.chains.a.window = [] ∧ t.chains.b.window = [] ∧ t.chains.a.z = s.chains.a.z ∧
    t.chains.b.z = s.chains.b.z ∧ t.intakes.a.refill = false ∧ t.intakes.b.refill = false)

/-- Between two states a mode switch ends without a change of mode (R116): the platforms of the mode FREE, and the inner barriers
asked back to the mode's place, but for one in FAULT. -/
def failsSwitch (s t : State) : Prop :=
  t.plat.mode = s.plat.mode ∧ t.plat.target = none ∧
  (∀ p ∈ Mode.platforms s.plat.mode, t.platRec p = PlatRec.free (s.settings.plat.ends.get p)) ∧ onlyBarriers [.aS, .bN] s t ∧
  ∀ b, b = Barrier.aS ∨ b = .bN →
    ((s.bars.get b).state = .fault → t.bars.get b = s.bars.get b) ∧
    ((s.bars.get b).state ≠ .fault → s.plat.mode = .split → t.bars.get b = s.loweredDark b) ∧
    (s.plat.mode = .combined → t.bars.get b = Bar.raised s.travelMs (s.bars.get b))

/-- Between two states nothing changes but what a change of an input may reach: the units of R57, the platforms' weighing, visits
and call queue behind them, and the link. -/
def onlyField (s t : State) : Prop :=
  t = { s with
    intakes := t.intakes, sync := t.sync, chains := t.chains, inputs := t.inputs, drives := t.drives, beacons := t.beacons,
    bars := t.bars, recent := t.recent, gates := t.gates, plat := t.plat, alloc := t.alloc, visits := t.visits,
    link := t.link }

/-- Between two states no account but the one with the number changes, nor any vehicle record. -/
def onlyAccount (n : Nat) (s t : State) : Prop :=
  t.tables.vehicles = s.tables.vehicles ∧ ∀ k : Nat, k ≠ n → t.account k = s.account k

/-- An account as an admission leaves it (R147). -/
def Account.reserves (n estimate : Nat) (a : Account) : Account :=
  { a with reserved := if n = 0 then a.reserved else a.reserved + estimate }

/-- An account as a journal entry with this net leaves it (R148). -/
def Account.settled (n estimate net : Nat) (a : Account) : Account :=
  { a with
    reserved := if n = 0 then a.reserved else a.reserved - estimate,
    dayUsed := min 99999999 (a.dayUsed + net) }

/-- Between two states a vehicle is admitted (R81, R87, R124, R147, R155): the visit at the end of the table, its queue place, its
reservation, the entry gate open for it. -/
def admits (a : Admittee) (s t : State) : Prop :=
  t.visits.table = s.visits.table ++ [newVisit s s.freshId a] ∧ t.queued = s.queued ++ [s.freshId] ∧
  t.account a.account = (s.account a.account).map (Account.reserves a.account a.estimate) ∧ onlyAccount a.account s t ∧
  t.gates = (s.opened .entry (some s.freshId)).gates ∧ t.bars = (s.opened .entry (some s.freshId)).bars ∧
  t.drives = (s.opened .entry (some s.freshId)).drives

/-- Between two states a platform takes a call of a visit (R99, R125). -/
def takesCall (p : Platform) (v : Visit) (s t : State) : Prop :=
  t.platRec p =
    { PlatRec.free (s.settings.plat.ends.get p) with
      state := .calling, visit := some v.id, callTimer := some (s.settings.yard.callTimeout * 1000) } ∧
  onlyPlatform p s t ∧ t.visitById v.id = some { v with state := .called } ∧ onlyVisit v.id s t ∧
  t.queued = s.queued.filter fun id => id != v.id

/-- Between two states a platform enters HOLD (R108): its record, its barriers asked down but for the exit barrier at the resume
point EXIT, the beacons, and nothing of other platforms and barriers. -/
def entersHold (p : Platform) (why : HoldReason) (point : ResumePoint) (s t : State) : Prop :=
  t.platRec p = { s.platRec p with state := .hold, holdReason := some why, resume := some point, callTimer := none } ∧
  onlyPlatform p s t ∧ t.bars.get (s.entryBar p) = s.loweredDark (s.entryBar p) ∧
  (point ≠ .exit → t.bars.get (s.exitBar p) = s.loweredDark (s.exitBar p)) ∧
  (point = .exit → t.bars.get (s.exitBar p) = s.bars.get (s.exitBar p)) ∧
  onlyBarriers [s.entryBar p, s.exitBar p] s t ∧
  ∀ d : Deck, s.userOfDeck d = p → t.beacons.get d = true

/-- Between two states a platform releases its vehicle (R106): its record, the exit barrier raised and lit. -/
def releases (p : Platform) (outcome : ExitOutcome) (s t : State) : Prop :=
  t.platRec p =
    { s.platRec p with
      state := .exiting, outcome := some outcome, beamSeen := false, passed := false, holdReason := none, resume := none } ∧
  onlyPlatform p s t ∧ t.bars.get (s.exitBar p) = s.raisedLit (s.exitBar p) ∧ onlyBarriers [s.exitBar p] s t

/-- Between two states a visit takes the next ticket number and a journal entry of this kind and net, and its account is settled
with the net counted (R148, R173, R174, R175). -/
def writesEntry (kind : EntryKind) (v : Visit) (net : Option Nat) (s t : State) : Prop :=
  t.tickets.nextTicket = numberAfter s.tickets.nextTicket ∧
  (∃ j, t.tickets.journal = s.tickets.journal ++ [j] ∧ j.ticket = s.tickets.nextTicket ∧ j.kind = kind ∧ j.visit = v.id ∧
    j.tag = v.tag ∧ j.registration = v.registration ∧ j.account = v.account ∧ j.direction = v.direction ∧ j.pass = v.pass ∧
    j.first = v.first ∧ j.second = v.second ∧ j.tare = v.tare ∧ j.zeroNet = v.zeroNet ∧ j.net = net ∧ j.day = s.time.day ∧
    j.secondOfDay = s.time.second ∧ (j.unset = !s.time.valid) ∧ j.calCounter = s.settings.counter) ∧
  ∀ k, t.account k = if k = v.account then (s.account k).map (Account.settled k v.estimate (net.getD 0)) else s.account k

/-- A visit that has been voided under a ticket number (R166). -/
def Visit.voidedAs (n : Nat) (v : Visit) : Visit := { v with ticket := some n, journalled := true, voided := true }

/-- A visit whose weighing of the current leg is discarded (R162, R169). -/
def Visit.withoutWeighing (v : Visit) : Visit :=
  { v with
    first := if v.pass = .single then none else v.first,
    second := if v.pass = .two ∧ v.leg = .second then none else v.second }

/-- Between two states an exit release reaches a platform (R106, R109): a platform that waits for it and whose exit barrier is not
in FAULT takes it, and a held platform records it. -/
def exitTaken (p : Platform) (outcome : ExitOutcome) (s t : State) : Prop :=
  ((s.platRec p).state = .weighing ∨ (s.platRec p).state = .awaiting → (s.bars.get (s.exitBar p)).state ≠ .fault →
    releases p outcome s t) ∧
  ((s.platRec p).state = .hold →
    t.platRec p =
      { s.platRec p with outcome := some outcome, beamSeen := false, passed := false, resume := some .exit } ∧
    onlyPlatform p s t ∧ t.bars = s.bars)

/-- Between two states a visit with its net completes through platform p (R148, R151, R164, R175, R179): ticket number, journal
entry, account, stored tare, ticket unless printing is suppressed, and exit release. -/
def completes (p : Platform) (v : Visit) (s t : State) : Prop :=
  writesEntry .transaction v v.net s t ∧ onlyVisit v.id s t ∧
  t.visitById v.id = some { v with
    ticket := some s.tickets.nextTicket, journalled := true, state := .onDeck,
    tareRefreshed := v.tareRefreshed || (s.refreshes v).isSome } ∧
  (∀ slot r w, s.refreshes v = some (slot, r, w) →
    tabGet t.tables.vehicles slot = some { r with tare := some ⟨w.weight, w.number, w.platform, w.day, w.unset⟩ }) ∧
  (s.refreshes v = none → t.tables.vehicles = s.tables.vehicles) ∧
  (∀ q, (t.printer q).queue.map (·.content) = (s.printer q).queue.map (·.content) ++
    if q = printerOf p ∧ (s.printer q).suppressed = false then t.tickets.journal.drop s.tickets.journal.length else []) ∧
  exitTaken p .nextCleared s t

/-- Printing does not hold a completion up (R163). -/
abbrev State.printRoom (s : State) (p : Platform) : Prop :=
  (s.printer (printerOf p)).suppressed = true ∨ (s.printer (printerOf p)).queue.length < 4

/-- No visit waits for a place in a printer's queue (R165). -/
def State.noPrintWait (s : State) (p : Printer) : Prop :=
  ∀ q v, platformOfPrinter s.plat.mode p = some q → s.boundVisit q = some v → v.state ≠ .printWait

/-- Between two states the vehicle table changes at one slot alone. -/
def vehicleSlot (slot : Nat) (v : Option Vehicle) (s t : State) : Prop :=
  t.tables.accounts = s.tables.accounts ∧
    ∀ k, tabGet t.tables.vehicles k = if k = slot then v else tabGet s.tables.vehicles k

/-- Between two states the account table changes at one number alone. -/
def accountPlace (n : Nat) (a : Option Account) (s t : State) : Prop :=
  t.tables.vehicles = s.tables.vehicles ∧ ∀ k, t.account k = if k = n then a else s.account k

end Sys2Proof.Machine
end

