-- ==== Sys2Proof/Certificates/Slice0/Obligations.lean ====
section
/-! DEFINITION. The statements, for the provers: what the commands do and the laws that every step keeps. -/

open Sys2Proof Sys2Proof.Machine

/-! ## The step -/

/-- A step with a command at the front of the queue runs that command over the queue's rest. -/
def Obligations.StepRunsFront : Prop :=
  ∀ (c : Instr) (rest : List Instr) (s : State), s.pending = c :: rest →
    step s = exec c { s with pending := rest }

/-- The model's choice of log 5: with no command waiting the part consumes what an intake holds (R11, R12), or else
delivers a grant in flight (R129); without either a STARTING part idles (R194), and a running one passes a tick of 1 ms.
In a tick every running timer counts one (R188). Where that brings nothing due the tick does nothing else, and where it
brings one expiry or the end of the sync pulse (log 49) due, that happens as the expiry's command says; of several at
once log 6 fixes the order. The sub-second divider then counts, and at 1,000 issues the 1 s tick (R189). -/
def Obligations.IdleStep : Prop :=
  ∀ s : State, s.pending = [] →
    (s.frameReady .a = true → step s = exec (.consumeFrame .a) s) ∧
    (s.frameReady .a = false → s.frameReady .b = true → step s = exec (.consumeFrame .b) s) ∧
    (s.pairReady = true → step s = exec .consumePair s) ∧
    (s.frameReady .a = false → s.frameReady .b = false → s.pairReady = false →
      (∀ p, s.flying = some p → step s = exec (.grant p) s) ∧
      (s.flying = none → s.running = false → step s = .next s) ∧
      (s.flying = none → s.running = true →
        step s = .next (msTick s) ∧
        ∀ counted u, countsDown s counted →
          ((∀ c, ¬ counted.due c) ∧ u = counted ∨
            ∃ c, counted.due c ∧ (∀ x, counted.due x → x = c) ∧ exec c counted = .next u ∧ ∀ x, ¬ u.due x) →
          (u.time.subMs < 999 → step s = .next { u with time := { u.time with subMs := u.time.subMs + 1 } }) ∧
          (999 ≤ u.time.subMs → step s = exec .oneSecondTick u)))

/-- No command stops the part: each leads to a next state, and leaves the queue of waiting commands as it is. -/
def Obligations.EveryCommandRuns : Prop :=
  ∀ (c : Instr) (s : State), ∃ t, exec c s = .next t ∧ t.pending = s.pending

/-! ## Laws that every step keeps -/

/-- The state after reset, the model's choice of log 1, meets every law below. -/
def Obligations.ResetIsSound : Prop :=
  State.reset.memSound ∧ State.reset.drivesFollow ∧ State.reset.beamsSafe ∧ State.reset.beaconsFollow ∧
  State.reset.signsSound ∧ State.reset.linkSound ∧ State.reset.transmitterSound ∧ State.reset.intakesSound ∧
  State.reset.zerosSound ∧ State.reset.numbersSound ∧ State.reset.yardSound ∧ State.reset.tablesSound ∧
  State.reset.booksSound ∧ State.reset.printersSound ∧ State.reset.clockSound

/-- The settings memory keeps its canonical form. -/
def Obligations.MemoryStaysCanonical : Prop := keptByStep State.memSound

/-- RAISE, LOWER and GREEN follow each barrier's state and lamp command (R63, R70), and while the part runs each
beacon shows exactly a HOLD or a block of its deck's platform (R120). -/
def Obligations.OutputsStayRight : Prop :=
  keptByStep State.drivesFollow ∧
  keptByStep State.beaconsFollow

/-- No barrier is LOWERING while its beam is broken (R63). -/
def Obligations.NoLoweringUnderBrokenBeam : Prop := keptByStep State.beamsSafe

/-- The sign line holds at most one message for a sign, and none waits while it is idle (R118); the office link's queues
and counter keep their bounds and latches belong to enabled classes (R203, R207); the frame assembly holds at most 245
characters, the model's choice of log 44; the gap timer runs exactly while a frame is open (R201), in STARTING too by
the model's reading of log 47; a frame waits only behind one in service (R203), and the transmitter idles only with
nothing to send, the model's reading of log 21 (R206). -/
def Obligations.LinesStaySound : Prop :=
  keptByStep State.signsSound ∧
  keptByStep State.linkSound ∧
  keptByStep State.transmitterSound

/-- The intakes and counters (R8, R13, R17, R75), the capture and ticket numbers (R45, R173), the print queues (R179)
and the clock and watch (R190, R195, R196) stay in range. The silence timer runs exactly while the watch is armed and
the part ONLINE, after a LINK_WATCH taken OFFLINE too by the model's reading of log 43. -/
def Obligations.CountsStayInRange : Prop :=
  keptByStep State.intakesSound ∧
  keptByStep State.numbersSound ∧
  keptByStep State.printersSound ∧
  keptByStep State.clockSound

/-- Each working zero stays within its zero limit (R37). -/
def Obligations.ZerosStayWithinLimit : Prop := keptByStep State.zerosSound

/-- At most 32 visits are open, under distinct ids in range (R153, R154). With that these laws stay true together: no two
open visits carry one tag (R153); a visit is in the call queue exactly when it is QUEUED, and once (R123); the visits in
a bound state and the platforms' bindings agree, and a platform's state allows its visit's (R157); a platform of the
current mode is SWITCHING exactly during a switch (R115); a capture is open only in WEIGHING (R46); no open visit
carries the tag that waits for the office (R153); the exit gate opens for no visit but a CLEARED one (R89), and once
that visit has left the table by a CANCEL or its passage the gate is open for none, the model's reading of log 36. That
the laws stand in STARTING after a COLD reset as well is its choice of log 24. -/
def Obligations.VisitIdsStayDistinct : Prop :=
  keptByStep State.visitsSound ∧
  keptByStep State.yardSound

/-- Vehicle slots and tags stay distinct and in range, and account 0 stays (R136, R141, R152). With the laws of the yard
the books stay right: the account of each open visit is in the table (R145); an account's reserved is the sum of the
estimates of its unjournalled open visits (R146); the journal holds at most 256 entries, and its free places are never
fewer than the unjournalled open visits (R174); a visit is journalled exactly when it is CLEARED or leaves the deck to
be so (R164, R166). The laws of the yard rest on the model's reading of log 36 for a gate whose visit has left the
table; that all stand in STARTING after a COLD reset as well is its choice of log 24. -/
def Obligations.TablesStaySound : Prop :=
  keptByStep State.tablesSound ∧
  keptByStep fun s => s.yardSound ∧ s.tablesSound ∧ s.booksSound

/-! ## Arithmetic and judgements -/

/-- The rounding of R19: nearest, an exact half away from zero. -/
def Obligations.RoundingIsNearest : Prop :=
  ∀ (n : Int) (d : Nat), 0 < d →
    2 * (roundDiv n d * d - n).natAbs ≤ d ∧
      (2 * (roundDiv n d * d - n).natAbs = d → n.natAbs < (roundDiv n d * d).natAbs)

/-- A result that a capture takes weighs a whole number of divisions, at least 20 of them and at most Max (R28, R47).
-/
def Obligations.CapturedWeightInRange : Prop :=
  ∀ (n m band : Nat) (c : ResultContext) (grams : Int) (ch : Chain),
    captureSucceeds c.d c.max (produceResult n m band c grams ch).latest = true →
      ∃ k : Int, (produceResult n m band c grams ch).latest.w = some (k * c.d) ∧ (20 * c.d : Nat) ≤ k * c.d ∧
        k * c.d ≤ (c.max : Int) ∧ (produceResult n m band c grams ch).latest.flags.valid = true ∧
        (produceResult n m band c grams ch).latest.flags.stable = true

/-- The level of a queued visit (R126). -/
def Obligations.LevelOfVisit : Prop :=
  ∀ (s : State) (v : Visit), ∃ base, base = s.settings.plat.levels.getD v.cls 0 ∧
    (v.leg = .first → s.level v = base) ∧
    (v.leg = .second → 0 < base → base < 3 → s.level v = base + 1) ∧
    (v.leg = .second → 3 ≤ base → s.level v = 3) ∧
    (base = 0 → s.level v = 0)

/-- The eligibility of a visit for a platform (R127). -/
def Obligations.EligibilityOfVisit : Prop :=
  ∀ (s : State) (v : Visit) (p : Platform), s.eligible v p = true ↔
    v.state = .queued ∧ v.entered = true ∧ 0 < s.level v ∧
      (∃ a, s.account v.account = some a ∧ a.mask.has p = true) ∧ (v.length = .long → p = .ab)

/-- A stored tare is current (R150). -/
def Obligations.TareIsCurrent : Prop :=
  ∀ (s : State) (v : Vehicle), s.tareCurrent v = true ↔
    ∃ t, v.tare = some t ∧ t.unset = false ∧ s.time.valid = true ∧
      0 ≤ (s.time.day : Int) - t.day ∧ (s.time.day : Int) - t.day ≤ v.validity

/-! ## Barriers -/

/-- A raise request (R65) and a lower request (R66), by the barrier's state and its beam: the state, lower-pending,
the travel timer and the outputs. -/
def Obligations.RaiseAndLowerRequests : Prop :=
  ∀ (b : Barrier) (s : State),
    (∃ r, (raiseReq b s).bars = s.bars.set b r ∧ r.lamp = (s.bars.get b).lamp ∧ r.cause = (s.bars.get b).cause ∧
      ((s.bars.get b).state = .down ∨ (s.bars.get b).state = .lowering →
        r.state = .raising ∧ r.lowerPending = false ∧ r.timer = some (s.settings.yard.travelLimit * 1000) ∧
          (raiseReq b s).drives = s.drives.set b { raise := true, lower := false, green := false }) ∧
      ((s.bars.get b).state = .raising ∨ (s.bars.get b).state = .up →
        r.state = (s.bars.get b).state ∧ r.lowerPending = false ∧ r.timer = (s.bars.get b).timer) ∧
      ((s.bars.get b).state = .fault → raiseReq b s = s) ∧
      (s.drives.get b = driveOf (s.bars.get b) → (raiseReq b s).drives = s.drives.set b (driveOf r)) ∧
      raiseReq b s = { s with bars := (raiseReq b s).bars, drives := (raiseReq b s).drives }) ∧
    ((s.bars.get b).state = .raising ∨ (s.bars.get b).state = .up →
      (s.effective b .beam = false →
        (∃ lamp, (lowerReq b s).bars = s.bars.set b
            { s.bars.get b with
              state := .lowering, lowerPending := false, lamp := lamp,
              timer := some (s.settings.yard.travelLimit * 1000) } ∧
          ((s.bars.get b).state = .up → lamp = false)) ∧
        (lowerReq b s).drives = s.drives.set b { raise := false, lower := true, green := false }) ∧
      (s.effective b .beam = true →
        (lowerReq b s).bars = s.bars.set b { s.bars.get b with lowerPending := true })) ∧
    ((s.bars.get b).state = .down ∨ (s.bars.get b).state = .lowering ∨ (s.bars.get b).state = .fault →
      lowerReq b s = s) ∧
    (s.drives.get b = driveOf (s.bars.get b) →
      (lowerReq b s).drives = s.drives.set b (driveOf ((lowerReq b s).bars.get b))) ∧
    lowerReq b s = { s with bars := (lowerReq b s).bars, drives := (lowerReq b s).drives }

/-! ## Requests and the office link -/

/-- A request that is refused changes nothing but the silence timer and the link's slot (R196, R203, R204); while
STARTING every request but STATUS is refused so (R204). -/
def Obligations.RefusedRequestChangesNothing : Prop :=
  ∀ (c : Instr) (n : ReqName) (fs : List Text) (s : State), requestRow c = some (n, fs) →
    (∀ code, s.ready → (ownerRule n fs s.heard).2 = .err code → exec c s = .next (s.answered (.err code))) ∧
    (s.running = false → s.watch.online = true → s.link.started = true → s.link.inService = none → s.link.owed = [] →
      n ≠ .status → exec c s = .next (s.answered (.err .starting)))

/-- Where a frame goes (R203, R204). Characters that end at a CR, a faulty one too by the model's choice of log 42,
close the frame the assembly holds (R201); a frame that holds a request is that request's row (the model's choice of log
8). While the link is not started nothing is taken (R200). A request while the link is busy: pending with its judgement
to come, owed ERR,BUSY, or counted as discarded. A malformed frame, whether its CR or the running gap timer ends it:
answered ERR,FRAME, pending, owed, or counted as discarded, with the silence timer left alone (R196). By the model's
choice of log 7 and its reading of log 47 a gap timeout without a running gap timer, or in STARTING, has no effect.
Characters without a
CR (log 9): discarded outside a frame up to a '<' without a framing error (R200), and else kept, at most 245 of them
(log 44), with the gap timer restarted (R201). -/
def Obligations.FramePlacement : Prop :=
  (∀ (c : Instr) (n : ReqName) (fs : List Text) (s : State), requestRow c = some (n, fs) →
    (∀ chars frame, arrivesAs s.link.assembly chars frame → parseFrame frame = .good (some n) fs →
      exec (.officeFrameEnd chars) s = exec c s) ∧
    (s.link.started = false → exec c s = .next (pump s)) ∧
    (s.link.started = true → s.watch.online = true → s.link.sending ≠ none →
      (s.link.inService ≠ none → s.link.owed = [] → s.link.waiting = none →
        exec c s = .next { s.heard with link := { s.link with
          assembly := [], gap := none, waiting := some (.good (some n) fs) } }) ∧
      ((s.link.inService ≠ none ∧ s.link.waiting ≠ none) ∨ s.link.owed ≠ [] →
        (s.link.owed.length < 16 →
          exec c s = .next { s.heard with link := { s.link with
            assembly := [], gap := none, owed := s.link.owed ++ [.busy] } }) ∧
        (16 ≤ s.link.owed.length →
          exec c s = .next { s.heard with link := { s.link with
            assembly := [], gap := none, discards := countAfter s.link.discards } })))) ∧
  (∀ (chars frame : List RxByte) (fs : List Text) (s : State), arrivesAs s.link.assembly chars frame →
    parseFrame frame = .good none fs → s.ready → exec (.officeFrameEnd chars) s = .next (s.answered (.err .unknown))) ∧
  (∀ (c : Instr) (s : State),
    (∃ chars frame, c = .officeFrameEnd chars ∧ arrivesAs s.link.assembly chars frame ∧ parseFrame frame = .malformed) ∨
      (c = .frameGapTimeout ∧ s.link.gap ≠ none ∧ s.running = true) →
    (s.link.started = false → exec c s = .next (pump s)) ∧
    (s.link.started = true → s.link.inService = none → s.link.owed = [] →
      exec c s = .next { s with link := { s.link with
        assembly := [], gap := none, inService := some ⟨.err .frame, false⟩,
        sending := sendNext (.err .frame) s.link.sending } }) ∧
    (s.link.started = true → s.link.sending ≠ none →
      (s.link.inService ≠ none → s.link.owed = [] → s.link.waiting = none →
        exec c s = .next { s with link := { s.link with assembly := [], gap := none, waiting := some .malformed } }) ∧
      ((s.link.inService ≠ none ∧ s.link.waiting ≠ none) ∨ s.link.owed ≠ [] →
        (s.link.owed.length < 16 →
          exec c s = .next { s with link := { s.link with
            assembly := [], gap := none, owed := s.link.owed ++ [.frame] } }) ∧
        (16 ≤ s.link.owed.length →
          exec c s = .next { s with link := { s.link with
            assembly := [], gap := none, discards := countAfter s.link.discards } })))) ∧
  (∀ s : State, s.link.gap = none ∨ s.running = false → exec .frameGapTimeout s = .next (pump s)) ∧
  (∀ (chars : List RxByte) (s : State), (∀ c ∈ s.link.assembly ++ chars, c.code ≠ 0x0D) →
    (s.link.started = false ∨ (∀ c ∈ s.link.assembly ++ chars, c.code ≠ 0x3C ∨ c.faulty = true) →
      exec (.officeFrameEnd chars) s = .next (pump s)) ∧
    (∀ (junk rest : List RxByte) (start : RxByte), s.link.started = true → s.link.assembly ++ chars = junk ++ start :: rest →
      (∀ c ∈ junk, c.code ≠ 0x3C ∨ c.faulty = true) → start.code = 0x3C → start.faulty = false →
      exec (.officeFrameEnd chars) s =
        .next (pump { s with link := { s.link with assembly := (start :: rest).take 245, gap := some 500 } })))

/-- What the transmitter sends next when it is idle (R206): the reply, then a refusal owed when nothing is pending,
then the oldest notice; that it chooses at the end of an event is the model's choice of log 21. When it finishes a
frame (R203, R206), a notice or refusal leaves the line to the next; a reply empties the slot, and a pending frame moves
into service: a malformed one is answered ERR,FRAME, one without a known name ERR,UNKNOWN, and a request while STARTING
ERR,STARTING but for STATUS (R204); any other request is taken by its owning rule over the emptied slot, just as its row
takes it, and the reply of a RESTART that is taken is the one that resets the part (R217). -/
def Obligations.TransmitterOrderAndEnd : Prop :=
  (∀ s : State,
    (∀ f, s.link.sending = some f → pump s = s) ∧
    (s.link.sending = none →
      (∀ r, s.link.inService = some r → pump s = { s with link := { s.link with sending := some (.reply r) } }) ∧
      (s.link.inService = none →
        (∀ c cs, s.link.waiting = none → s.link.owed = c :: cs →
          pump s = { s with link := { s.link with sending := some (.refusal c), owed := cs } }) ∧
        (s.link.waiting ≠ none ∨ s.link.owed = [] →
          (∀ n ns, s.link.notices = n :: ns →
            pump s = { s with link := { s.link with sending := some (.notice n), notices := ns } }) ∧
          (s.link.notices = [] → pump s = s))))) ∧
  (∀ (u : Unacked) (s : State),
    (∀ n, s.link.sending = some (.notice n) →
      exec (.officeFrameSent u) s = .next (pump { s with link := { s.link with sending := none } })) ∧
    (∀ c, s.link.sending = some (.refusal c) →
      exec (.officeFrameSent u) s = .next (pump { s with link := { s.link with sending := none } })) ∧
    (∀ r, s.link.sending = some (.reply ⟨r, false⟩) → s.link.waiting = none →
      exec (.officeFrameSent u) s = .next (pump { s with link := { s.link with inService := none, sending := none } })) ∧
    (∀ r code, s.link.sending = some (.reply ⟨r, false⟩) →
      (s.link.waiting = some .malformed ∧ code = .frame) ∨ (∃ fs, s.link.waiting = some (.good none fs) ∧ code = .unknown) ∨
        (∃ n fs, s.link.waiting = some (.good (some n) fs) ∧ s.running = false ∧ n ≠ .status ∧ code = .starting) →
      exec (.officeFrameSent u) s = .next { s with link := { s.link with
        inService := some ⟨.err code, false⟩, waiting := none, sending := some (.reply ⟨.err code, false⟩) } }) ∧
    (∀ r n fs emptied, s.link.sending = some (.reply ⟨r, false⟩) → s.link.waiting = some (.good (some n) fs) →
      s.running = true ∨ n = .status →
      emptied = { s with link := { s.link with inService := none, waiting := none, sending := none } } →
      (∃ t reply restart, (t, reply) = ownerRule n fs emptied ∧ (restart = true ↔ n = .restart ∧ ∃ xs, reply = .ok xs) ∧
        exec (.officeFrameSent u) s = .next { t with link := { t.link with
          inService := some ⟨reply, restart⟩, sending := some (.reply ⟨reply, restart⟩) } }) ∧
      (∀ c, requestRow c = some (n, fs) → s.link.started = true → s.watch.online = true → s.heard = s → s.link.owed = [] →
        s.link.assembly = [] → s.link.gap = none → exec (.officeFrameSent u) s = exec c emptied)))

/-- A notice that is raised (R207) is discarded when its class is disabled, queued when ONLINE with room, latched
otherwise. NOTICE_ENABLE (R208): ON enables a disabled class; ON again collects its latch when the queue has room; OFF
disables the class and clears its latch. -/
def Obligations.NoticesAndLatches : Prop :=
  (∀ (c : NoticeClass) (name : String) (fields : List Field) (s : State),
    ((s.link.classes.get c).enabled = false → notify c name fields s = s) ∧
    ((s.link.classes.get c).enabled = true →
      (s.watch.online = true → s.link.notices.length < 16 →
        notify c name fields s = { s with link := { s.link with notices := s.link.notices ++ [⟨name, fields⟩] } }) ∧
      (s.watch.online = false ∨ 16 ≤ s.link.notices.length →
        notify c name fields s = { s with link := { s.link with
          classes := s.link.classes.set c { enabled := true, latched := true } } }))) ∧
  (∀ (f g : Text) (c : NoticeClass) (on : Bool) (s : State), s.ready → parseWord NoticeClass.words f = some c →
    parseWord onOffWords g = some on →
      (on = false →
        exec (.noticeEnable [f, g]) s =
          .next (State.answered { s with link := { s.link with
            classes := s.link.classes.set c { enabled := false, latched := false } } }
            (.ok [.word (NoticeClass.word c), .word "OFF", .empty]))) ∧
      (on = true → (s.link.classes.get c).enabled = false →
        exec (.noticeEnable [f, g]) s =
          .next (State.answered { s with link := { s.link with
            classes := s.link.classes.set c { s.link.classes.get c with enabled := true } } }
            (.ok [.word (NoticeClass.word c), .word "ON", .empty]))) ∧
      (on = true → (s.link.classes.get c).enabled = true →
        ((s.link.classes.get c).latched = true → s.link.notices.length < 16 →
          exec (.noticeEnable [f, g]) s =
            .next (State.answered { s with link := { s.link with
              notices := s.link.notices ++ [⟨"LATCHED", [.word (NoticeClass.word c)]⟩],
              classes := s.link.classes.set c { enabled := true, latched := false } } }
              (.ok [.word (NoticeClass.word c), .word "ON", .word "LATCHED"]))) ∧
        ((s.link.classes.get c).latched = false ∨ 16 ≤ s.link.notices.length →
          exec (.noticeEnable [f, g]) s =
            .next (s.answered (.ok [.word (NoticeClass.word c), .word "ON", .empty])))))

/-- WEIGHT, PLATFORM, INPUTS, DIAG, STATUS and SETTINGS_READ (R18, R35, R60, R117, R204, R209, R212): replies from the
state as it stands, with nothing changed. DIAG,CLEAR alone changes state (R17): its reply gives the counters as they
stood, and all become 0. DIAG's cells stand in one field and its counters in a field each by the model's choice of log
48; the form of other fields that the manual does not spell out is its reading of log 23, and the rounding of the
seconds left on a timer that of log 13. -/
def Obligations.ReadsOfYardAndPart : Prop :=
  (∀ s : State, s.ready →
    exec (.weight []) s = .next (s.answered (.ok ((Mode.platforms s.plat.mode).flatMap (weightFields s)))) ∧
    (∀ f p, parseWord Platform.words f = some p → s.current p = true →
      exec (.weight [f]) s = .next (s.answered (.ok
        [platField p, .num (s.chains.get p).latest.seq, optInt (s.chains.get p).latest.w, optInt (s.chains.get p).latest.a,
         .num (s.divisionOf p), .num (s.maxOf p), plusField (s.chains.get p).latest.flags.names])) ∧
      exec (.platform [f]) s = .next (s.answered (.ok
        ([.word (Mode.word s.plat.mode), (match s.plat.target with
           | some m => .word (Mode.word m)
           | none => .empty)] ++ platformFields s p)))) ∧
    (∀ f p, parseWord Platform.words f = some p → s.current p = false →
      exec (.weight [f]) s = .next (s.answered (.err .state)) ∧
      exec (.platform [f]) s = .next (s.answered (.err .state))) ∧
    exec (.platform []) s = .next (s.answered (.ok
      ([.word (Mode.word s.plat.mode), (match s.plat.target with
         | some m => .word (Mode.word m)
         | none => .empty)] ++ (Mode.platforms s.plat.mode).flatMap (platformFields s)))) ∧
    exec (.inputs []) s = .next (s.answered (.ok
      (([.aN, .aS, .bN, .bS, .eN, .eX] : List Barrier).flatMap (fun b =>
          ([.loop, .beam, .up, .down] : List Line).flatMap fun l => inputFields s ⟨b, l⟩) ++
        ([.aN, .aS, .bN, .bS, .eN, .eX] : List Barrier).flatMap (fun b =>
          ([.raise b, .lower b, .green b] : List OutputId).flatMap (outputFields s)) ++
        outputFields s (.beacon .a) ++ outputFields s (.beacon .b)))) ∧
    exec (.diag []) s = .next (s.answered (.ok (diagFields s .a ++ diagFields s .b ++ [.num s.readerErrors]))) ∧
    (∀ f i, parseInput f = some i →
      exec (.inputs [f]) s = .next (s.answered (.ok
        [.text (InputId.text i), .word (if (s.inputs.input i).high then "H" else "L"),
         .word (if (s.inputs.input i).deb then "A" else "I"),
         .word (match (s.inputs.input i).override with
           | .none => "N"
           | .forceActive => "FA"
           | .forceInactive => "FI"),
         .word (if s.effective i.bar i.line then "A" else "I")]))) ∧
    (∀ f o, parseInput f = none → parseOutput f = some o →
      exec (.inputs [f]) s = .next (s.answered (.ok [.text o.text, .word (if s.output o then "ON" else "OFF")])))) ∧
  (∀ s : State,
    (s.ready → exec (.status []) s = .next (s.answered (.ok (statusFields s.heard)))) ∧
    (s.running = false → s.watch.online = true → s.link.started = true → s.link.inService = none → s.link.owed = [] →
      exec (.status []) s = .next (s.answered (.ok [.word "STARTING"]))) ∧
    (s.ready → ∀ f (n : Nat), parseDec f = some (n : Int) → 1 ≤ n → n ≤ 7 →
      exec (.settingsRead [f]) s =
        .next (s.answered (.ok (.num n :: s.statusLetter n :: (s.liveSection n).fields)))) ∧
    (s.ready →
      exec (.diag [ascii "CLEAR"]) s =
        .next (State.answered
          { s with
            intakes := { a := { s.intakes.a with counts := ⟨0, 0, 0, 0, 0, 0⟩ },
                         b := { s.intakes.b with counts := ⟨0, 0, 0, 0, 0, 0⟩ } },
            readerErrors := 0 }
          (.ok (diagFields s .a ++ diagFields s .b ++ [.num s.readerErrors])))))

/-- The reads of the tables, the visits, the queue and the journal (R134, R137, R142, R170, R171, R177): replies from
the state as it stands, with nothing changed. Fields whose form the manual does not spell out are written by the model's
reading of log 23, and the admission's TIME_UNSET in the VISIT reply by its choice of log 40. -/
def Obligations.ReadsOfTables : Prop :=
  ∀ s : State, s.ready →
    (∀ tag slot v, tagOk tag = true → s.vehicleByTag tag = some (slot, v) →
      exec (.vehicleGet [tag]) s = .next (s.answered (.ok
        ([.text v.tag, .text v.registration, .num v.account, .num v.cls, .word (Length.word v.length),
          .word (Direction.word v.direction), .num v.estimate] ++ tareFields v.tare ++
         [.num v.validity, yesNo (s.tareCurrent v), yesNo v.blocked, yesNo v.refreshTare,
          optNum ((s.holderOf slot).map (·.id))])))) ∧
    (∀ f (n : Nat) a, parseDec f = some (n : Int) → n ≤ 127 → s.account n = some a →
      exec (.accountGet [f]) s = .next (s.answered (.ok
        [.num n, .text a.name, .word (if a.active then "ACTIVE" else "SUSPENDED"), optNum a.allowance, .num a.dayUsed,
         .num a.reserved, (match a.allowance with
           | some most => .num (most - a.dayUsed - a.reserved : Int)
           | none => .empty), plusField a.mask.names, yesNo a.tarePermitted,
         .num (s.tables.vehicles.filter fun e => e.2.account == n).length,
         .num (s.visits.table.filter fun v => v.account == n).length]))) ∧
    (∀ f (k : Nat) e, parseDec f = some (k : Int) → s.tickets.journal[k]? = some e →
      exec (.journalRead [f]) s = .next (s.answered (.ok (.num s.tickets.journal.length :: entryFields e)))) ∧
    (∀ f (n : Nat) v, parseDec f = some (n : Int) → 1 ≤ n → n ≤ 65535 → s.visitById n = some v →
      exec (.visit [f]) s = .next (s.answered (.ok (visitFields s v)))) ∧
    (∀ f (n : Nat), parseDec f = some (n : Int) → 1 ≤ n → n ≤ 32 → n ≤ s.visits.table.length ∨ n = 1 →
      exec (.visitList [f]) s = .next (s.answered (.ok
        ([.num s.visits.table.length, .num s.unjournalled, .num s.journalFree] ++
          pageFields (listFields s) n s.visits.table)))) ∧
    (∀ f (n : Nat), parseDec f = some (n : Int) → 1 ≤ n → n ≤ 32 → n ≤ s.alloc.queue.length ∨ n = 1 →
      exec (.queue [f]) s = .next (s.answered (.ok
        (.num s.alloc.queue.length :: pageFields (queueFields s) n s.alloc.queue)))) ∧
    exec (.visitList []) s = exec (.visitList [ascii "1"]) s ∧ exec (.queue []) s = exec (.queue [ascii "1"]) s

/-! ## Load cells and weighing -/

/-- A burst that ends (R1 to R9). While STARTING it is discarded; malformed or with a wrong channel count it is counted;
a good frame restarts the frame timer, is checked against the last counter, updates the cells, and joins the intake, or
is dropped at a full one; a link that is not RUNNING becomes RUNNING. In SPLIT mode that restarts the filter; in
COMBINED mode it starts REFILL when the other link runs, and so does a frame dropped while both links run (R9, R13):
both intakes empty, marked and counted, the sync line on (where an earlier pulse is still driven, on as it was: the
model's choice of log 49), platform AB's result marked (R33). A frame that reaches an intake in REFILL (R14) is
discarded, with no gap counted, until one with counter 0 joins and ends that deck's REFILL; when no deck is in REFILL
any more the combined filter restarts. -/
def Obligations.BurstEnd : Prop :=
  ∀ (d : Deck) (bytes : List RxByte) (s : State),
    (s.running = false → exec (.digitiserBurstEnd d bytes) s = .next (pump s)) ∧
    (s.running = true →
      (parseBurst bytes = none ∨ (∃ f, parseBurst bytes = some f ∧ f.channels.length ≠ (s.settings.cal.get d).n) →
        exec (.digitiserBurstEnd d bytes) s = .next (pump { s with
          intakes := s.intakes.set d { s.intakes.get d with
            counts := { (s.intakes.get d).counts with badFrames := countAfter (s.intakes.get d).counts.badFrames } } })) ∧
      (∀ f i o gaps, parseBurst bytes = some f → f.channels.length = (s.settings.cal.get d).n → i = s.intakes.get d →
        o = s.intakes.get (otherDeck d) →
        gaps = (if i.last = none ∨ i.last = some (f.counter - 1) then i.counts.gaps else countAfter i.counts.gaps) →
        (i.refill = false →
          (i.link = .running → i.entries.length < 8 →
            ∃ t, exec (.digitiserBurstEnd d bytes) s = .next t ∧ t = { s with intakes := t.intakes, link := t.link } ∧
              t.intakes = s.intakes.set d { i with
                timer := some s.settings.weigh.frameTimeout, last := some f.counter, cells := s.cellsAfter d f,
                entries := i.entries ++ [s.entryOf d f], counts := { i.counts with gaps := gaps } }) ∧
          (i.link = .running → 8 ≤ i.entries.length →
            (s.plat.mode = .split ∨ o.link ≠ .running →
              ∃ t, exec (.digitiserBurstEnd d bytes) s = .next t ∧ t = { s with intakes := t.intakes, link := t.link } ∧
                t.intakes = s.intakes.set d { i with
                  timer := some s.settings.weigh.frameTimeout, last := some f.counter, cells := s.cellsAfter d f,
                  counts := { i.counts with gaps := gaps, dropped := countAfter i.counts.dropped } }) ∧
            (s.plat.mode = .combined → o.link = .running →
              ∃ t, exec (.digitiserBurstEnd d bytes) s = .next t ∧
                t = { s with intakes := t.intakes, sync := true, chains := t.chains, link := t.link } ∧
                t.chains = { s.chains with ab := s.chains.ab.inRefill } ∧ t.intakes.get (otherDeck d) = o.emptied ∧
                t.intakes.get d = { i with
                  timer := some s.settings.weigh.frameTimeout, last := some f.counter, cells := s.cellsAfter d f,
                  entries := [], refill := true,
                  counts := { i.counts with
                    gaps := gaps, dropped := countAfter i.counts.dropped, refills := countAfter i.counts.refills } })) ∧
          (i.link ≠ .running → i.entries.length < 8 → s.plat.mode = .split ∨ o.link ≠ .running →
            ∃ t, exec (.digitiserBurstEnd d bytes) s = .next t ∧
              t = { s with intakes := t.intakes, chains := t.chains, link := t.link } ∧
              t.intakes = s.intakes.set d { i with
                link := .running, stale := 0, timer := some s.settings.weigh.frameTimeout, last := some f.counter,
                cells := s.cellsAfter d f, entries := i.entries ++ [s.entryOf d f] } ∧
              (s.plat.mode = .split →
                t.chains = s.chains.set (deckPlatform d)
                  { s.chains.get (deckPlatform d) with window := [], stab := [] }) ∧
              (s.plat.mode = .combined → t.chains = s.chains))) ∧
        (i.link ≠ .running → s.plat.mode = .combined → o.link = .running →
          ∃ t, exec (.digitiserBurstEnd d bytes) s = .next t ∧
            t = { s with intakes := t.intakes, sync := true, chains := t.chains, link := t.link } ∧
            t.chains = { s.chains with ab := s.chains.ab.inRefill } ∧ t.intakes.get (otherDeck d) = o.emptied ∧
            t.intakes.get d = { i.emptied with
              link := .running, stale := 0, timer := some s.settings.weigh.frameTimeout, last := some f.counter,
              cells := s.cellsAfter d f, entries := if f.counter = 0 then [s.entryOf d f] else [],
              refill := decide (f.counter ≠ 0) }) ∧
        (i.refill = true → i.link = .running ∨ (s.plat.mode = .combined ∧ o.link ≠ .running) →
          ∃ t, exec (.digitiserBurstEnd d bytes) s = .next t ∧
            t = { s with intakes := t.intakes, chains := t.chains, link := t.link } ∧
            t.intakes = s.intakes.set d { i with
              link := .running, stale := if i.link = .running then i.stale else 0,
              timer := some s.settings.weigh.frameTimeout, last := some f.counter, cells := s.cellsAfter d f,
              entries := if f.counter = 0 then i.entries ++ [s.entryOf d f] else i.entries,
              refill := decide (f.counter ≠ 0) } ∧
            (f.counter = 0 → o.refill = false →
              t.chains = { s.chains with ab := { s.chains.ab with window := [], stab := [] } }) ∧
            (f.counter ≠ 0 ∨ o.refill = true → t.chains = s.chains))))

/-- A frame timer's expiry (R10, R33, R49): a RUNNING link goes STALE with its intake flushed and the result of its
platform marked; a STALE link counts, and at the stale-to-fault count goes to FAULT. -/
def Obligations.FrameTimerExpiry : Prop :=
  ∀ (d : Deck) (s : State), (s.intakes.get d).timer ≠ none →
    ((s.intakes.get d).link = .running →
      exec (.frameTimerExpiry d) s = .next (pump (notify .weigh "DL_STALE" [.word (Deck.word d)] { s with
        intakes := s.intakes.set d { s.intakes.get d with
          link := .stale, stale := 0, timer := some s.settings.weigh.frameTimeout, entries := [],
          counts := { (s.intakes.get d).counts with staleEvents := countAfter (s.intakes.get d).counts.staleEvents } },
        chains := s.chains.set (s.userOfDeck d) { s.chains.get (s.userOfDeck d) with
          latest := { (s.chains.get (s.userOfDeck d)).latest with
            flags := { (s.chains.get (s.userOfDeck d)).latest.flags with valid := false, stale := true } },
          capture := (s.chains.get (s.userOfDeck d)).capture.map fun k => { k with lastReason := some .invalid } } }))) ∧
    ((s.intakes.get d).link = .stale → (s.intakes.get d).stale + 1 < s.settings.weigh.staleToFault →
      exec (.frameTimerExpiry d) s = .next (pump { s with
        intakes := s.intakes.set d { s.intakes.get d with
          stale := (s.intakes.get d).stale + 1, timer := some s.settings.weigh.frameTimeout } })) ∧
    ((s.intakes.get d).link = .stale → s.settings.weigh.staleToFault ≤ (s.intakes.get d).stale + 1 →
      exec (.frameTimerExpiry d) s = .next (pump (notify .weigh "DL_FAULT" [.word (Deck.word d)] { s with
        intakes := s.intakes.set d { s.intakes.get d with
          stale := (s.intakes.get d).stale + 1, link := .fault, timer := none } })))

/-- CONSUME_FRAME in SPLIT mode (R11, R22) and CONSUME_PAIR on heads of one counter in COMBINED mode (R12, R23) give the
platform a result: the filter and the stability window (R24, R26), A and W (R27, R28), the indications (R29, R30), the
sequence counter (R31) and VALID (R32). That result alone changes the platform's chain with no capture open; an open
capture that it does not satisfy keeps its reason (R48). Of heads that differ the one behind is discarded and counted,
and both where neither is behind (R12); one CONSUME_PAIR compares once, the model's reading of log 11. -/
def Obligations.ConsumeFrameOrPair : Prop :=
  (∀ (c : Instr) (p : Platform) (grams : Int) (cellFault badChannel : Bool) (left : PerDeck Intake) (s : State),
    s.feeds c p grams cellFault badChannel left →
    ∃ ch, ch = s.chainAfter p grams cellFault badChannel ∧ s.weighs p grams cellFault badChannel (s.chains.get p) ch ∧
      ((s.chains.get p).capture = none →
        exec c s = .next (pump { s with intakes := left, chains := s.chains.set p ch })) ∧
      (∀ k, (s.chains.get p).capture = some k → captureSucceeds (s.divisionOf p) (s.maxOf p) ch.latest = false →
        ∃ why,
          exec c s = .next (pump { s with
            intakes := left, chains := s.chains.set p { ch with capture := some { k with lastReason := some why } } }) ∧
          (ch.latest.flags.valid = false → why = .invalid) ∧
          (∀ w, ch.latest.flags.valid = true → ch.latest.w = some w →
            ((s.maxOf p : Int) < w → why = .aboveMax) ∧
            (w ≤ s.maxOf p → w < (20 * s.divisionOf p : Nat) → why = .belowMin) ∧
            (w ≤ s.maxOf p → (20 * s.divisionOf p : Nat) ≤ w → why = .motion)))) ∧
  (∀ (ea eb : FrameEntry) (ra rb : List FrameEntry) (s : State), s.running = true → s.plat.mode = .combined →
    s.suspended .a = false → s.suspended .b = false → s.intakes.a.entries = ea :: ra → s.intakes.b.entries = eb :: rb →
    ∃ slipA slipB,
      slipA = { s.intakes.a with
        entries := ra, counts := { s.intakes.a.counts with pairSlips := countAfter s.intakes.a.counts.pairSlips } } ∧
      slipB = { s.intakes.b with
        entries := rb, counts := { s.intakes.b.counts with pairSlips := countAfter s.intakes.b.counts.pairSlips } } ∧
      (1 ≤ (eb.counter - ea.counter).toNat → (eb.counter - ea.counter).toNat ≤ 127 →
        exec .consumePair s = .next (pump { s with intakes := { s.intakes with a := slipA } })) ∧
      (1 ≤ (ea.counter - eb.counter).toNat → (ea.counter - eb.counter).toNat ≤ 127 →
        exec .consumePair s = .next (pump { s with intakes := { s.intakes with b := slipB } })) ∧
      ((ea.counter - eb.counter).toNat = 128 →
        exec .consumePair s = .next (pump { s with intakes := { a := slipA, b := slipB } })))

/-- A capture that succeeds on a TWO visit at leg FIRST, by CONSUME_FRAME in SPLIT mode or by CONSUME_PAIR on platform AB
(R45, R47, R52, R104, R106, R160): the weighing is stored under the next capture number and the platform releases the
vehicle to tip. -/
def Obligations.FirstWeighing : Prop :=
  ∀ (c : Instr) (p : Platform) (grams : Int) (cellFault badChannel : Bool) (left : PerDeck Intake) (s : State) (ch : Chain)
    (k : Capture) (v : Visit) (w : Int), s.feeds c p grams cellFault badChannel left →
    ch = s.chainAfter p grams cellFault badChannel → (s.chains.get p).capture = some k →
    captureSucceeds (s.divisionOf p) (s.maxOf p) ch.latest = true → ch.latest.w = some w →
    (s.platRec p).state = .weighing → s.boundVisit p = some v → v.pass = .two → v.leg = .first →
    (s.bar (s.exitBar p)).state ≠ .fault →
    ∃ t, exec c s = .next t ∧
      t = { s with
        intakes := left, chains := t.chains, nextCapture := t.nextCapture, drives := t.drives, beacons := t.beacons,
        bars := t.bars, plat := t.plat, alloc := t.alloc, visits := t.visits, link := t.link } ∧
      t.nextCapture = numberAfter s.nextCapture ∧ t.chains = s.chains.set p { ch with capture := none } ∧
      t.visitById v.id = some { v with first := some (s.recordOf p w) } ∧ onlyVisit v.id s t ∧
      releases p .nextTipping s t ∧ t.queued = s.queued

/-- A capture that succeeds on a TWO visit at leg SECOND or on an inbound SINGLE visit, by CONSUME_FRAME in SPLIT mode or
by CONSUME_PAIR on platform AB (R147, R148, R151, R160 to R164, R173, R174, R175, R179). A net of 0 or more, with
printing suppressed or a place in the print queue, completes the visit: the net, the ticket number, the journal entry,
the account, the stored tare, the ticket, the release; with a full print queue the visit is in PRINT_WAIT and the
platform AWAITING. A negative net, ONLINE or under the offline policy HOLD, puts the visit in QUERY and the platform in
AWAITING; OFFLINE under ACCEPT_ZERO the visit takes a net of 0, marked ZERO_NET, and so completes or waits (R162). -/
def Obligations.WeighingDecidesNet : Prop :=
  ∀ (c : Instr) (p : Platform) (grams : Int) (cellFault badChannel : Bool) (left : PerDeck Intake) (s : State) (ch : Chain)
    (k : Capture) (v u : Visit) (w n : Int), s.feeds c p grams cellFault badChannel left →
    ch = s.chainAfter p grams cellFault badChannel → (s.chains.get p).capture = some k →
    captureSucceeds (s.divisionOf p) (s.maxOf p) ch.latest = true → ch.latest.w = some w →
    (s.platRec p).state = .weighing → s.boundVisit p = some v →
    (v.pass = .two ∧ v.leg = .second ∧ u = { v with second := some (s.recordOf p w) } ∧
        (∃ f, v.first = some f ∧
          (v.direction = .inbound ∧ n = f.weight - w ∨ v.direction = .outbound ∧ n = w - f.weight))) ∨
      (v.pass = .single ∧ v.direction = .inbound ∧ u = { v with first := some (s.recordOf p w) } ∧
        ∃ tare, v.tare = some tare ∧ n = w - tare.weight) →
    (s.bar (s.exitBar p)).state ≠ .fault →
    ∃ t, exec c s = .next t ∧
      t = { s with
        intakes := left, chains := t.chains, nextCapture := t.nextCapture, drives := t.drives, beacons := t.beacons,
        bars := t.bars, plat := t.plat, alloc := t.alloc, tables := t.tables, visits := t.visits, tickets := t.tickets,
        link := t.link } ∧
      t.nextCapture = numberAfter s.nextCapture ∧ t.chains = s.chains.set p { ch with capture := none } ∧
      t.queued = s.queued ∧
      (∀ x, (0 ≤ n ∧ x = { u with net := some n.toNat }) ∨
          (n < 0 ∧ s.watch.online = false ∧ s.settings.policy = .acceptZero ∧
            x = { u with net := some 0, zeroNet := true }) →
        (s.printRoom p → completes p x s t) ∧
        (¬ s.printRoom p →
          t.visitById v.id = some { x with state := .printWait } ∧ onlyVisit v.id s t ∧
          t.platRec p = { s.platRec p with state := .awaiting } ∧ onlyPlatform p s t ∧ t.tables = s.tables ∧
          t.tickets = s.tickets ∧ t.bars = s.bars)) ∧
      (n < 0 → s.watch.online = true ∨ s.settings.policy = .hold →
        t.visitById v.id = some { u with state := .query } ∧ onlyVisit v.id s t ∧
        t.platRec p = { s.platRec p with state := .awaiting } ∧ onlyPlatform p s t ∧ t.tables = s.tables ∧
        t.tickets = s.tickets ∧ t.bars = s.bars)

/-- The ZERO request (R41, R42): the refusals in their order, and the new working zero. -/
def Obligations.ZeroRequest : Prop :=
  ∀ (f : Text) (p : Platform) (a : Int) (s : State), s.ready → parseWord Platform.words f = some p →
    (s.chains.get p).latest.a = some a →
    (s.current p = false ∨ (s.platRec p).state ≠ .free → exec (.zero [f]) s = .next (s.answered (.err .state))) ∧
    (s.current p = true → (s.platRec p).state = .free →
      (s.platSuspended p = true ∨ (s.chains.get p).pendingZero = true →
        exec (.zero [f]) s = .next (s.answered (.err .busy))) ∧
      (s.platSuspended p = false → (s.chains.get p).pendingZero = false →
        ((s.chains.get p).latest.flags.valid = false → exec (.zero [f]) s = .next (s.answered (.err .invalid))) ∧
        ((s.chains.get p).latest.flags.valid = true →
          ((s.chains.get p).latest.flags.stable = false → exec (.zero [f]) s = .next (s.answered (.err .motion))) ∧
          ((s.chains.get p).latest.flags.stable = true →
            (s.maxOf p * 20 < ((s.chains.get p).z + a - s.zRef p).natAbs →
              exec (.zero [f]) s = .next (s.answered (.err .range))) ∧
            (((s.chains.get p).z + a - s.zRef p).natAbs ≤ s.maxOf p * 20 →
              exec (.zero [f]) s = .next (State.answered
                { s with chains := s.chains.set p { s.chains.get p with
                    z := (s.chains.get p).z + a, zeroRange := false, pendingZero := true } }
                (.ok [platField p, .num ((s.chains.get p).z + a), .num ((s.chains.get p).z + a - s.zRef p),
                  .num (s.maxOf p * 20 : Nat)])))))))

/-- A capture timer's expiry (R50, R108): the capture closes, and the platform enters HOLD with the capture's last
reason, or NO_RESULT, to resume at POSITIONING. -/
def Obligations.CaptureExpiry : Prop :=
  ∀ (p : Platform) (k : Capture) (s : State), (s.chains.get p).capture = some k →
    ∃ t why, exec (.captureTimerExpiry p) s = .next t ∧
      (k.lastReason = none → why = .noResult) ∧ (∀ r, k.lastReason = some r → why = CaptureReason.hold r) ∧
      t = { s with
        chains := t.chains, drives := t.drives, beacons := t.beacons, bars := t.bars, plat := t.plat, alloc := t.alloc,
        link := t.link } ∧
      t.chains = s.chains.set p { s.chains.get p with capture := none } ∧ entersHold p why .positioning s t ∧
      t.queued = s.queued

/-! ## Field signals, barriers, readers and gates -/

/-- A raw change of an input (R55, R56, R61): only noted while STARTING or under an override; otherwise it clears,
starts or restarts the debounce. That a level the input already has is no change is the model's choice of log 7. A
debounce's expiry (R55, R57, R78): the debounced level takes the raw level. Where that changes nothing, nothing is
delivered; otherwise nothing but the units that R57 names can change; a loop that becomes inactive clears its reader's
entry, and does nothing else but at EN while the entry gate waits for the office (R86); a loop that becomes active
reaches nobody. -/
def Obligations.InputChangeAndDebounce : Prop :=
  (∀ (i : InputId) (high : Bool) (s : State),
    ((s.inputs.input i).high = high → exec (.inputRawChange i high) s = .next (pump s)) ∧
    ((s.inputs.input i).high ≠ high →
      (s.running = false ∨ (s.inputs.input i).override ≠ .none →
        exec (.inputRawChange i high) s = .next (pump { s with
          inputs := s.inputs.setInput i { s.inputs.input i with high := high } })) ∧
      (s.running = true → (s.inputs.input i).override = .none →
        ((s.inputs.input i).deb = (high != (s.inputSet i).activeLow) →
          exec (.inputRawChange i high) s = .next (pump { s with
            inputs := s.inputs.setInput i { s.inputs.input i with high := high, debounce := none } })) ∧
        ((s.inputs.input i).deb ≠ (high != (s.inputSet i).activeLow) → 0 < (s.inputSet i).debounce →
          exec (.inputRawChange i high) s = .next (pump { s with
            inputs := s.inputs.setInput i { s.inputs.input i with
              high := high, debounce := some (s.inputSet i).debounce } })) ∧
        ((s.inputs.input i).deb ≠ (high != (s.inputSet i).activeLow) → (s.inputSet i).debounce = 0 →
          ∃ t, exec (.inputRawChange i high) s = .next t ∧ onlyField s t ∧
            t.inputs = s.inputs.setInput i { s.inputs.input i with
              high := high, deb := !(s.inputs.input i).deb, debounce := none })))) ∧
  (∀ (i : InputId) (s : State), (s.inputs.input i).debounce ≠ none → (s.inputs.input i).override = .none →
    ∃ x raw, raw = ((s.inputs.input i).high != (s.inputSet i).activeLow) ∧
      x = { s.inputs.input i with deb := raw, debounce := none } ∧
      ((s.inputs.input i).deb = raw →
        exec (.debounceExpiry i) s = .next (pump { s with inputs := s.inputs.setInput i x })) ∧
      (∃ t, exec (.debounceExpiry i) s = .next t ∧ onlyField s t ∧ t.inputs = s.inputs.setInput i x) ∧
      ((s.inputs.input i).deb = false → raw = true → i.line = .loop →
        exec (.debounceExpiry i) s = .next (pump { s with inputs := s.inputs.setInput i x })) ∧
      ((s.inputs.input i).deb = true → raw = false → i.line = .loop →
          i.bar ≠ .eN ∨ s.gates.entry.state ≠ .waitHost →
        exec (.debounceExpiry i) s = .next (pump { s with
          inputs := s.inputs.setInput i x, recent := s.recent.set (loopReader i.bar) { tag := none, hold := .stopped } })))

/-- How a barrier moves. A beam broken under a LOWERING barrier (R68): RAISING with a lower pending, lamp command clear,
travel timer restarted. The UP limit at a RAISING barrier (R67): UP, timer stopped, outputs by R70; with a lower pending
and its beam clear it goes on to LOWERING (an inner barrier of AB, which is raised again, apart: R95); a CLOSED gate or
a FREE platform that is not being switched asks it down (R83, R96); a called vehicle that stands in the entry beam is
then on the deck (R102). The DOWN limit at a LOWERING one (R67): DOWN; an inner barrier of AB is raised again (R95); the
entry barrier of a POSITIONING platform brings its test (R103). Any other change of a limit changes nothing but its
input, and LIMIT_LOST tells a limit lost in DOWN or UP (R69). A travel timer that expires, or both limits active (R69):
FAULT with its cause, outputs off; the platform that uses the barrier enters HOLD with its resume point, its capture
cancelled, or if FREE is blocked with its beacons lit (R98, R107, R108, R120). -/
def Obligations.BarrierMotion : Prop :=
  (∀ (b : Barrier) (s : State), s.brings ⟨b, .beam⟩ true → (s.bars.get b).state = .lowering →
    ∃ t, exec (.debounceExpiry ⟨b, .beam⟩) s = .next t ∧
      t.bars.get b = { s.bars.get b with
        state := .raising, lowerPending := true, lamp := false, timer := some (s.settings.yard.travelLimit * 1000) } ∧
      t.drives.get b = { raise := true, lower := false, green := false } ∧ t.beamBroken b = true) ∧
  (∀ (b : Barrier) (s : State), s.brings ⟨b, .up⟩ true → s.effective b .down = false → (s.bars.get b).state = .raising →
    ∃ t up lowering, exec (.debounceExpiry ⟨b, .up⟩) s = .next t ∧ t.inputs = s.inputsWith ⟨b, .up⟩ true ∧
      up = { s.bars.get b with state := .up, timer := none } ∧
      lowering = { s.bars.get b with
        state := .lowering, lowerPending := false, lamp := false, timer := some (s.settings.yard.travelLimit * 1000) } ∧
      t.drives = s.drives.set b (driveOf (t.bars.get b)) ∧
      ((s.bars.get b).lowerPending = true → s.beamBroken b = false → s.plat.mode = .split ∨ (b ≠ .aS ∧ b ≠ .bN) →
        t = { s with inputs := t.inputs, drives := t.drives, beacons := t.beacons, bars := t.bars, link := t.link } ∧
        t.bars = s.bars.set b lowering) ∧
      ((s.bars.get b).lowerPending = false ∨ s.beamBroken b = true →
        (∀ g, b = gateBar g →
          t = { s with inputs := t.inputs, drives := t.drives, bars := t.bars, link := t.link } ∧
          ((s.gates.get g).state ≠ .closed → t.bars = s.bars.set b up) ∧
          ((s.gates.get g).state = .closed → t.bars = s.bars.set b (Bar.lowered (s.beamBroken b) s.travelMs up))) ∧
        (∀ p, s.platUser b = some p → (s.platRec p).state ≠ .switching →
          ((s.platRec p).state = .free → b = s.entryBar p ∨ b = s.exitBar p →
            t = { s with inputs := t.inputs, drives := t.drives, beacons := t.beacons, bars := t.bars, link := t.link } ∧
            t.bars = s.bars.set b (Bar.lowered (s.beamBroken b) s.travelMs up)) ∧
          ((s.platRec p).state ≠ .free ∨ (b ≠ s.entryBar p ∧ b ≠ s.exitBar p) →
            (s.platRec p).state ≠ .calling ∨ b ≠ s.entryBar p ∨ s.beamBroken b = false →
            t = { s with
              inputs := t.inputs, drives := t.drives, beacons := t.beacons, bars := t.bars, alloc := t.alloc,
              link := t.link } ∧
            t.bars = s.bars.set b up ∧ t.queued = s.queued) ∧
          (∀ v, (s.platRec p).state = .calling → b = s.entryBar p → s.beamBroken b = true → s.boundVisit p = some v →
            (s.platRec p).visit = some v.id →
            t = { s with
              inputs := t.inputs, drives := t.drives, beacons := t.beacons, bars := t.bars, plat := t.plat,
              visits := t.visits, link := t.link } ∧
            t.bars = s.bars.set b up ∧ onlyPlatform p s t ∧ onlyVisit v.id s t ∧
            t.platRec p = { s.platRec p with state := .entering, callTimer := none } ∧
            t.visitById v.id = some { v with state := .onDeck, noShows := 0 })))) ∧
  (∀ (b : Barrier) (s : State), s.brings ⟨b, .down⟩ true → s.effective b .up = false → (s.bars.get b).state = .lowering →
    ∃ t down, exec (.debounceExpiry ⟨b, .down⟩) s = .next t ∧ t.inputs = s.inputsWith ⟨b, .down⟩ true ∧
      down = { s.bars.get b with state := .down, timer := none } ∧ t.drives = s.drives.set b (driveOf (t.bars.get b)) ∧
      (∀ g, b = gateBar g → (s.gates.get g).state ≠ .opened →
        t = { s with inputs := t.inputs, drives := t.drives, bars := t.bars, link := t.link } ∧
        t.bars = s.bars.set b down) ∧
      (∀ p, s.platUser b = some p → (s.platRec p).state ≠ .switching →
        (p = .ab → b = .aS ∨ b = .bN →
          t = { s with inputs := t.inputs, drives := t.drives, beacons := t.beacons, bars := t.bars, link := t.link } ∧
          t.bars = s.bars.set b (Bar.raised s.travelMs down)) ∧
        (p ≠ .ab ∨ (b ≠ .aS ∧ b ≠ .bN) →
          ((s.platRec p).state = .positioning → b = s.entryBar p → s.beamBroken (s.entryBar p) = false →
            s.beamBroken (s.exitBar p) = false →
            t = { s with
              inputs := t.inputs, chains := t.chains, drives := t.drives, beacons := t.beacons, bars := t.bars,
              plat := t.plat, link := t.link } ∧
            t.bars = s.bars.set b down ∧ onlyPlatform p s t ∧ t.platRec p = { s.platRec p with state := .weighing } ∧
            t.chains = s.chains.set p { s.chains.get p with
              capture := some { lastReason := none, timer := s.settings.weigh.captureTimeout * 1000 } }) ∧
          ((s.platRec p).state = .positioning → b ≠ s.entryBar p ∨ s.beamBroken (s.entryBar p) = true ∨
              s.beamBroken (s.exitBar p) = true →
            t = { s with inputs := t.inputs, drives := t.drives, beacons := t.beacons, bars := t.bars, link := t.link } ∧
            t.bars = s.bars.set b down) ∧
          ((s.platRec p).state ≠ .positioning →
            (s.platRec p).state ≠ .exiting ∨ b ≠ s.exitBar p ∨ (s.platRec p).passed = false →
            t = { s with
              inputs := t.inputs, drives := t.drives, beacons := t.beacons, bars := t.bars, alloc := t.alloc,
              link := t.link } ∧
            t.bars = s.bars.set b down ∧ t.queued = s.queued)))) ∧
  (∀ (b : Barrier) (l : Line) (active : Bool) (s : State), s.brings ⟨b, l⟩ active → l = .up ∨ l = .down →
    (∀ word,
      (((s.bars.get b).state = .down ∧ word = "DOWN" ∧
          (l = .up ∧ active = true ∧ s.effective b .down = false ∨ l = .down ∧ active = false)) ∨
        ((s.bars.get b).state = .up ∧ word = "UP" ∧
          (l = .down ∧ active = true ∧ s.effective b .up = false ∨ l = .up ∧ active = false))) →
      exec (.debounceExpiry ⟨b, l⟩) s = .next (pump (notify .system "LIMIT_LOST" [.word (Barrier.word b), .word word]
        { s with inputs := s.inputsWith ⟨b, l⟩ active }))) ∧
    ((s.bars.get b).state = .fault ∨
        (active = false ∧ ((s.bars.get b).state = .raising ∨ (s.bars.get b).state = .lowering ∨
          (l = .up ∧ (s.bars.get b).state = .down) ∨ (l = .down ∧ (s.bars.get b).state = .up))) ∨
        (l = .up ∧ s.effective b .down = false ∧ active = true ∧
          ((s.bars.get b).state = .up ∨ (s.bars.get b).state = .lowering)) ∨
        (l = .down ∧ s.effective b .up = false ∧ active = true ∧
          ((s.bars.get b).state = .down ∨ (s.bars.get b).state = .raising)) →
      exec (.debounceExpiry ⟨b, l⟩) s = .next (pump { s with inputs := s.inputsWith ⟨b, l⟩ active }))) ∧
  (∀ (c : Instr) (b : Barrier) (s f : State), s.faults c b f →
    ∃ t, exec c s = .next t ∧ t.bars.get b = f.bars.get b ∧ t.drives.get b = f.drives.get b ∧
      t = { f with
        chains := t.chains, drives := t.drives, beacons := t.beacons, bars := t.bars, gates := t.gates, plat := t.plat,
        alloc := t.alloc, link := t.link } ∧ t.queued = s.queued ∧
      (∀ p, s.platUser b = some p →
        ((s.platRec p).state = .free →
          t.plat = s.plat ∧ t.bars = f.bars ∧ (∀ d : Deck, s.userOfDeck d = p → t.beacons.get d = true)) ∧
        ((s.platRec p).state = .hold → t.plat = s.plat ∧ t.bars = f.bars) ∧
        (∀ point,
          ((s.platRec p).state = .calling ∧ point = .none) ∨
            (((s.platRec p).state = .entering ∨ (s.platRec p).state = .positioning ∨ (s.platRec p).state = .weighing) ∧
              point = .positioning) ∨
            ((s.platRec p).state = .awaiting ∧ point = .awaiting) ∨ ((s.platRec p).state = .exiting ∧ point = .exit) →
          entersHold p .barrier point f t ∧
          ((s.platRec p).state = .weighing → t.chains = s.chains.set p { s.chains.get p with capture := none }) ∧
          ((s.platRec p).state ≠ .weighing → t.chains = s.chains))))

/-- INPUT_OVERRIDE (R56, R59): the override in force again changes nothing; another one is set, and one that leaves
the effective level as it was changes the input alone and is told by the notice OVERRIDE. -/
def Obligations.InputOverrideRequest : Prop :=
  ∀ (f g : Text) (i : InputId) (o : Override) (x : Input) (s : State), s.ready → parseInput f = some i →
    parseWord Override.words g = some o →
    x = (match o with
      | .none => { s.inputs.input i with override := .none, deb := s.rawLevel i, debounce := none }
      | .forceActive => { s.inputs.input i with override := .forceActive, debounce := none }
      | .forceInactive => { s.inputs.input i with override := .forceInactive, debounce := none }) →
    ((s.inputs.input i).override = o →
      exec (.inputOverride [f, g]) s = .next (s.answered (.ok [.text (InputId.text i), .word (Override.word o),
        .word (if s.effective i.bar i.line then "ACTIVE" else "INACTIVE")]))) ∧
    ((s.inputs.input i).override ≠ o →
      ∃ t, exec (.inputOverride [f, g]) s = .next t ∧ onlyField { s with watch := t.watch } t ∧
        t.inputs = s.inputs.setInput i x ∧
        repliedOk [.text (InputId.text i), .word (Override.word o),
          .word (if Input.effective x then "ACTIVE" else "INACTIVE")] s t) ∧
    ((s.inputs.input i).override ≠ o → Input.effective x = s.effective i.bar i.line →
      exec (.inputOverride [f, g]) s = .next (State.answered
        { notify .system "OVERRIDE" [.text (InputId.text i), .word (Override.word o)] s with
          inputs := s.inputs.setInput i x }
        (.ok [.text (InputId.text i), .word (Override.word o), .word (if Input.effective x then "ACTIVE" else "INACTIVE")])))

/-- BARRIER_RESET (R71): refused in a state other than FAULT and with both limits active. Otherwise the barrier takes the
record that its limits and beam give, with the cause and the lamp command clear, and the reply tells that record's
state; no other barrier changes, and the outputs follow (R63). The new state is handed to the user (R64): a CLOSED gate
and a FREE platform ask a barrier that is UP down (R85, R96), platform AB asks an inner barrier that is DOWN or LOWERING
up (R95), and in every other case the record stands. A gate that is OPEN and finds its barrier DOWN is CLOSED (R83).
Where the new state calls for no action of the platform (R102, R103, R106, R115), its record stands too. -/
def Obligations.BarrierResetRequest : Prop :=
  ∀ (f : Text) (b : Barrier) (s : State), s.ready → parseWord Barrier.words f = some b →
    ((s.bars.get b).state ≠ .fault ∨ (s.effective b .up = true ∧ s.effective b .down = true) →
      exec (.barrierReset [f]) s = .next (s.answered (.err .state))) ∧
    ((s.bars.get b).state = .fault → (s.effective b .up && s.effective b .down) = false →
      ∃ t r, exec (.barrierReset [f]) s = .next t ∧
        repliedOk [.word (Barrier.word b), .word (BarState.word r.state)] s t ∧
        t = { s with
          intakes := t.intakes, sync := t.sync, chains := t.chains, drives := t.drives, beacons := t.beacons, bars := t.bars,
          gates := t.gates, plat := t.plat, alloc := t.alloc, visits := t.visits, watch := t.watch, link := t.link } ∧
        (s.effective b .down = true →
          r = { state := .down, lowerPending := false, lamp := false, cause := none, timer := none }) ∧
        (s.effective b .up = true →
          r = { state := .up, lowerPending := false, lamp := false, cause := none, timer := none }) ∧
        (s.effective b .up = false → s.effective b .down = false → s.beamBroken b = true →
          r = { state := .up, lowerPending := true, lamp := false, cause := none, timer := none }) ∧
        (s.effective b .up = false → s.effective b .down = false → s.beamBroken b = false →
          r = { state := .lowering, lowerPending := false, lamp := false, cause := none,
                timer := some (s.settings.yard.travelLimit * 1000) }) ∧
        (s.userWantsDown b → r.state = .up →
          t.bars = s.bars.set b (Bar.lowered (s.beamBroken b) (s.settings.yard.travelLimit * 1000) r)) ∧
        (s.userWantsUp b → r.state = .down ∨ r.state = .lowering →
          t.bars = s.bars.set b (Bar.raised (s.settings.yard.travelLimit * 1000) r)) ∧
        (¬ (s.userWantsDown b ∧ r.state = .up) → ¬ (s.userWantsUp b ∧ (r.state = .down ∨ r.state = .lowering)) →
          t.bars = s.bars.set b r) ∧
        (t.bars.get b).state ≠ .fault ∧ (t.bars.get b).cause = none ∧ onlyBarriers [b] s t ∧
        t.drives = s.drives.set b (driveOf (t.bars.get b)) ∧
        (∀ g, b = gateBar g →
          t = { s with drives := t.drives, bars := t.bars, gates := t.gates, watch := t.watch, link := t.link } ∧
          ((s.gates.get g).state = .opened → r.state = .down → t.gates = s.gates.set g gateClosed) ∧
          ((s.gates.get g).state ≠ .opened ∨ r.state ≠ .down → t.gates = s.gates)) ∧
        (∀ p, s.platUser b = some p →
          s.userWantsUp b ∨
            (((s.platRec p).state = .switching → b ≠ .aS ∧ b ≠ .bN) ∧
              ((s.platRec p).state = .calling → b ≠ s.entryBar p ∨ s.beamBroken b = false ∨ r.state ≠ .up) ∧
              ((s.platRec p).state = .positioning → b ≠ s.entryBar p ∨ r.state ≠ .down) ∧
              ((s.platRec p).state = .exiting → b ≠ s.exitBar p ∨ (s.platRec p).passed = false ∨ r.state ≠ .down)) →
          t = { s with
            drives := t.drives, beacons := t.beacons, bars := t.bars, alloc := t.alloc, watch := t.watch, link := t.link } ∧
          t.queued = s.queued))

/-- A reader report that ends (R74 to R78): discarded while STARTING or begun in it; counted when malformed; discarded
when its loop is inactive; a repeat of the entry's tag whose hold timer has not expired restarts the timer alone. A
fresh read at the return point (R79, R92): of a visit that is TIPPING, which is QUEUED at leg SECOND at the tail of
the call queue; of a visit in another state or of a tag without one, which is only told by RETURN_IGNORED. -/
def Obligations.ReaderReportAndReturn : Prop :=
  (∀ (chars : List RxByte) (begun : Bool) (s : State),
    (s.running = false ∨ begun = true → exec (.readerReportEnd chars begun) s = .next (pump s)) ∧
    (s.running = true → begun = false →
      (parseReport chars = none →
        exec (.readerReportEnd chars begun) s = .next (pump { s with readerErrors := countAfter s.readerErrors })) ∧
      (∀ r tag, parseReport chars = some (r, tag) →
        (s.loopAllows r = false → exec (.readerReportEnd chars begun) s = .next (pump s)) ∧
        (s.loopAllows r = true → (s.recent.get r).tag = some tag → (s.recent.get r).hold ≠ .expired →
          exec (.readerReportEnd chars begun) s = .next (pump { s with
            recent := s.recent.set r { tag := some tag, hold := .running (s.settings.yard.repeatHold * 1000) } }))))) ∧
  (∀ (chars : List RxByte) (tag : Text) (s : State), s.running = true → parseReport chars = some (.r3, tag) →
    (s.recent.get .r3).fresh tag = true →
    (∀ v, s.visitByTag tag = some v → v.state = .tipping → s.visitById v.id = some v →
      ∃ t, exec (.readerReportEnd chars false) s = .next t ∧
        t = { s with recent := t.recent, alloc := t.alloc, visits := t.visits, link := t.link } ∧
        t.visitById v.id = some { v with state := .queued, leg := .second } ∧ onlyVisit v.id s t ∧
        t.queued = s.queued ++ [v.id]) ∧
    (∀ v, s.visitByTag tag = some v → v.state ≠ .tipping →
      exec (.readerReportEnd chars false) s =
        .next (pump (notify .visit "RETURN_IGNORED" [.text tag, .word (VisitState.word v.state)]
          { s with recent := s.recent.set .r3 { tag := some tag, hold := .running (s.settings.yard.repeatHold * 1000) } }))) ∧
    (s.visitByTag tag = none →
      exec (.readerReportEnd chars false) s = .next (pump (notify .visit "RETURN_IGNORED" [.text tag, .word "NO_VISIT"]
        { s with recent := s.recent.set .r3 { tag := some tag, hold := .running (s.settings.yard.repeatHold * 1000) } }))))

/-- A fresh read at a calling platform's entry reader (R79, R100): the called tag raises and lights the entry barrier
and clears the wrong mark; another tag sets it. -/
def Obligations.CallingRead : Prop :=
  ∀ (chars : List RxByte) (r : Reader) (tag : Text) (p : Platform) (s : State), s.running = true →
    parseReport chars = some (r, tag) → r = .r4 ∨ r = .r5 ∨ r = .r6 ∨ r = .r7 → s.loopAllows r = true →
    (s.recent.get r).fresh tag = true → s.platformAt r = some p → (s.platRec p).state = .calling →
    ∃ t, exec (.readerReportEnd chars false) s = .next t ∧
      t = { s with
        recent := t.recent, drives := t.drives, beacons := t.beacons, bars := t.bars, plat := t.plat, alloc := t.alloc,
        link := t.link } ∧ t.queued = s.queued ∧ onlyPlatform p s t ∧
      (s.boundTag p = some tag → (s.bars.get (s.entryBar p)).state ≠ .fault →
        t.platRec p = { s.platRec p with wrong := false } ∧ t.bars = s.bars.set (s.entryBar p) (s.raisedLit (s.entryBar p)) ∧
        t.drives = s.drives.set (s.entryBar p) (driveOf (s.raisedLit (s.entryBar p)))) ∧
      (s.boundTag p ≠ some tag →
        t.platRec p = { s.platRec p with wrong := true } ∧ t.bars = s.bars ∧ t.drives = s.drives)

/-- A fresh read at the entry gate (R80, R81, R82, R86). CLOSED, its barrier not in FAULT: a vehicle record whose checks
hold admits; an open visit without ENTERED_SITE opens the gate again; a record whose check fails is refused with its
reason; an unknown tag waits for the office while ONLINE and is refused while OFFLINE. With the barrier in FAULT it is
refused; at a gate that is not CLOSED it is ignored. A fresh read at the exit gate (R89): the gate opens for a CLEARED
visit, and refuses any other. ADMIT (R87): with the entry gate in WAIT_HOST and the checks met, the office's vehicle is
admitted under the pending tag. -/
def Obligations.EntryReadAndAdmit : Prop :=
  (∀ (chars : List RxByte) (tag : Text) (recent : PerReader RecentRead) (s : State), s.running = true →
    parseReport chars = some (.r1, tag) → s.effective .eN .loop = true → (s.recent.get .r1).fresh tag = true →
    recent = s.recent.set .r1 { tag := some tag, hold := .running (s.settings.yard.repeatHold * 1000) } →
    ((s.gates.get .entry).state ≠ .closed →
      exec (.readerReportEnd chars false) s = .next (pump { s with recent := recent })) ∧
    ((s.gates.get .entry).state = .closed → (s.bars.get .eN).state = .fault →
      exec (.readerReportEnd chars false) s = .next (pump (notify .gate "REFUSED"
        [.word "ENTRY", .text tag, .word "BARRIER"] { s with recent := recent }))) ∧
    ((s.gates.get .entry).state = .closed → (s.bars.get .eN).state ≠ .fault →
      (∀ slot v a, s.visitByTag tag = none → s.vehicleByTag tag = some (slot, v) → v.blocked = false →
        s.account v.account = some a → a.active = true →
        (∀ most, a.allowance = some most → a.dayUsed + a.reserved + v.estimate ≤ most) → s.visits.table.length < 32 →
        s.unjournalled < s.journalFree →
        ∃ t, exec (.readerReportEnd chars false) s = .next t ∧
          t = { s with
            drives := t.drives, bars := t.bars, recent := recent, gates := t.gates, alloc := t.alloc, tables := t.tables,
            visits := t.visits, link := t.link } ∧
          admits
            { tag := v.tag, vehicle := some slot, registration := v.registration, account := v.account, cls := v.cls,
              length := v.length, direction := v.direction, estimate := v.estimate,
              tare := if v.direction = .inbound ∧ a.tarePermitted = true ∧ s.tareCurrent v = true then v.tare else none } s t) ∧
      (∀ v, s.visitByTag tag = some v → v.entered = false →
        ∃ t, exec (.readerReportEnd chars false) s = .next t ∧
          t = { (s.opened .entry (some v.id)) with recent := recent, link := t.link }) ∧
      (∀ v, s.visitByTag tag = some v → v.entered = true →
        exec (.readerReportEnd chars false) s = .next (pump (notify .gate "REFUSED"
          [.word "ENTRY", .text tag, .word "ON_SITE"] { s with recent := recent }))) ∧
      (∀ slot v reason, s.visitByTag tag = none → s.vehicleByTag tag = some (slot, v) → entryRefusal s v = some reason →
        exec (.readerReportEnd chars false) s = .next (pump (notify .gate "REFUSED"
          [.word "ENTRY", .text tag, .word reason] { s with recent := recent }))) ∧
      (s.visitByTag tag = none → s.vehicleByTag tag = none → s.watch.online = true →
        exec (.readerReportEnd chars false) s = .next (pump (notify .gate "UNKNOWN_TAG" [.text tag]
          { s with
            recent := recent,
            gates := { s.gates with entry :=
              { state := .waitHost, openFor := none, seen := false, pendingTag := some tag, timer := none } } }))) ∧
      (s.visitByTag tag = none → s.vehicleByTag tag = none → s.watch.online = false →
        exec (.readerReportEnd chars false) s = .next (pump (notify .gate "REFUSED"
          [.word "ENTRY", .text tag, .word "UNKNOWN"] { s with recent := recent }))))) ∧
  (∀ (chars : List RxByte) (tag : Text) (recent : PerReader RecentRead) (s : State), s.running = true →
    parseReport chars = some (.r2, tag) → s.effective .eX .loop = true → (s.recent.get .r2).fresh tag = true →
    recent = s.recent.set .r2 { tag := some tag, hold := .running (s.settings.yard.repeatHold * 1000) } →
    ((s.gates.get .exit).state ≠ .closed →
      exec (.readerReportEnd chars false) s = .next (pump { s with recent := recent })) ∧
    ((s.gates.get .exit).state = .closed →
      ((s.bars.get .eX).state = .fault →
        exec (.readerReportEnd chars false) s = .next (pump (notify .gate "REFUSED"
          [.word "EXIT", .text tag, .word "BARRIER"] { s with recent := recent }))) ∧
      ((s.bars.get .eX).state ≠ .fault →
        (s.visitByTag tag = none →
          exec (.readerReportEnd chars false) s = .next (pump (notify .gate "REFUSED"
            [.word "EXIT", .text tag, .word "NO_VISIT"] { s with recent := recent }))) ∧
        (∀ v, s.visitByTag tag = some v → v.state ≠ .cleared →
          exec (.readerReportEnd chars false) s = .next (pump (notify .gate "REFUSED"
            [.word "EXIT", .text tag, .word "NOT_CLEARED"] { s with recent := recent }))) ∧
        (∀ v, s.visitByTag tag = some v → v.state = .cleared →
          exec (.readerReportEnd chars false) s = .next (pump (notify .gate "EXIT_OPENED" [.num v.id, .text tag]
            { (s.opened .exit (some v.id)) with recent := recent })))))) ∧
  (∀ (reg acc cls len dir est tag : Text) (a c e : Nat) (l : Length) (d : Direction) (rec : Account) (s : State), s.ready →
    registrationOk reg = true → parseDec acc = some (a : Int) → parseDec cls = some (c : Int) →
    parseWord Length.words len = some l → parseWord Direction.words dir = some d → parseDec est = some (e : Int) →
    a ≤ 127 → c ≤ 7 → e ≤ 60000 → (s.gates.get .entry).state = .waitHost → (s.gates.get .entry).pendingTag = some tag →
    s.account a = some rec → rec.active = true → (∀ most, rec.allowance = some most → rec.dayUsed + rec.reserved + e ≤ most) →
    s.visits.table.length < 32 → s.unjournalled < s.journalFree → (s.bars.get .eN).state ≠ .fault →
    ∃ t, exec (.admitVehicle [reg, acc, cls, len, dir, est]) s = .next t ∧ repliedOk [.num s.freshId] s t ∧
      t = { s with
        drives := t.drives, bars := t.bars, gates := t.gates, alloc := t.alloc, tables := t.tables, visits := t.visits,
        watch := t.watch, link := t.link } ∧
      admits
        { tag := tag, vehicle := none, registration := reg, account := a, cls := c, length := l, direction := d, estimate := e,
          tare := none } s t)

/-- GATE_OPEN, REFUSE and the gate hold's expiry (R83, R84, R88, R90, R91). A passage (R83, R90): the beam broken in
OPEN is seen and stops the hold; clear again it asks the barrier down, and the visit the gate is open for has entered
the site, or at the exit gate leaves the table, no gate being open for it any more (the model's reading of log 36). The
gate is CLOSED when its barrier is DOWN, and at once when the barrier enters FAULT (R84). WAIT_HOST ends when EN.LOOP
becomes inactive, and refused when the barrier enters FAULT (R84, R86). That the barrier's own BARRIER_FAULT (R69) joins
the notice queue before that REFUSED is the model's choice of log 12. -/
def Obligations.GateCommands : Prop :=
  ∀ (s : State),
    (∀ f g, s.ready → parseWord Gate.words f = some g → (s.gates.get g).state = .closed →
      (s.bars.get (gateBar g)).state ≠ .fault →
      exec (.gateOpen [f]) s =
        .next (State.answered (notify .gate "GATE_OPENED" [.word (Gate.word g)] (s.opened g none)) (.ok []))) ∧
    (∀ f g, s.ready → parseWord Gate.words f = some g →
      (s.gates.get g).state ≠ .closed ∨ (s.bars.get (gateBar g)).state = .fault →
      exec (.gateOpen [f]) s = .next (s.answered (.err .state))) ∧
    (∀ tag, s.ready → (s.gates.get .entry).state = .waitHost → (s.gates.get .entry).pendingTag = some tag →
      exec (.refuse []) s =
        .next (State.answered (notify .gate "REFUSED" [.word "ENTRY", .text tag, .word "HOST"]
          { s with gates := { s.gates with entry :=
              { state := .closed, openFor := none, seen := false, pendingTag := none, timer := none } } })
          (.ok [.text tag]))) ∧
    (s.ready → (s.gates.get .entry).state ≠ .waitHost → exec (.refuse []) s = .next (s.answered (.err .state))) ∧
    (∀ g, (s.gates.get g).state = .opened → (s.gates.get g).timer ≠ none →
      s.drives.get (gateBar g) = driveOf (s.bars.get (gateBar g)) →
      ∃ t bar, exec (.gateHoldExpiry g) s = .next t ∧
        bar = Bar.lowered (s.beamBroken (gateBar g)) s.travelMs (s.bars.get (gateBar g)) ∧
        t = { s with
          bars := s.bars.set (gateBar g) bar, drives := s.drives.set (gateBar g) (driveOf bar),
          gates := s.gates.set g { s.gates.get g with openFor := none, timer := none }, link := t.link }) ∧
    (∀ g, s.brings ⟨gateBar g, .beam⟩ true → (s.gates.get g).state = .opened → (s.gates.get g).seen = false →
      ∃ t, exec (.debounceExpiry ⟨gateBar g, .beam⟩) s = .next t ∧
        t = { s with inputs := s.inputsWith ⟨gateBar g, .beam⟩ true, drives := t.drives, bars := t.bars,
                     gates := s.gates.set g { s.gates.get g with seen := true, timer := none }, link := t.link } ∧
        ((s.bars.get (gateBar g)).state ≠ .lowering → t.bars = s.bars ∧ t.drives = s.drives)) ∧
    (∀ g bar, s.brings ⟨gateBar g, .beam⟩ false → (s.gates.get g).state = .opened → (s.gates.get g).seen = true →
      s.drives.get (gateBar g) = driveOf (s.bars.get (gateBar g)) →
      bar = Bar.lowered false s.travelMs (s.bars.get (gateBar g)) →
      ∃ t, exec (.debounceExpiry ⟨gateBar g, .beam⟩) s = .next t ∧
        t = { s with
          inputs := s.inputsWith ⟨gateBar g, .beam⟩ false, bars := s.bars.set (gateBar g) bar,
          drives := s.drives.set (gateBar g) (driveOf bar), gates := t.gates, alloc := t.alloc, visits := t.visits,
          link := t.link } ∧
        t.gates.get g = { s.gates.get g with openFor := none, seen := false } ∧ t.queued = s.queued ∧
        ((s.gates.get g).openFor = none → t.visits = s.visits ∧ ∀ x, x ≠ g → t.gates.get x = s.gates.get x) ∧
        (∀ v, g = .entry → (s.gates.get g).openFor = some v.id → s.visitById v.id = some v →
          t.gates.exit = s.gates.exit ∧ t.visitById v.id = some { v with entered := true } ∧ onlyVisit v.id s t) ∧
        (∀ v, g = .exit → (s.gates.get g).openFor = some v.id → s.visitById v.id = some v →
          t.visits = { s.visits with table := s.visits.table.filter fun x => x.id != v.id } ∧
          t.gates.entry = { s.gates.entry with
            openFor := if s.gates.entry.openFor = some v.id then none else s.gates.entry.openFor })) ∧
    (∀ g, s.brings ⟨gateBar g, .down⟩ true → s.effective (gateBar g) .up = false →
      (s.bars.get (gateBar g)).state = .lowering → (s.gates.get g).state = .opened →
      exec (.debounceExpiry ⟨gateBar g, .down⟩) s = .next (pump { s with
        inputs := s.inputsWith ⟨gateBar g, .down⟩ true,
        bars := s.bars.set (gateBar g) { s.bars.get (gateBar g) with state := .down, timer := none },
        drives := s.drives.set (gateBar g) { raise := false, lower := false, green := false },
        gates := s.gates.set g gateClosed })) ∧
    (∀ c g f, s.faults c (gateBar g) f → (s.gates.get g).state = .opened →
      ∃ t, exec c s = .next t ∧ t = { f with gates := s.gates.set g gateClosed, link := t.link }) ∧
    (∀ tag, s.brings ⟨.eN, .loop⟩ false → s.gates.entry.state = .waitHost → s.gates.entry.pendingTag = some tag →
      exec (.debounceExpiry ⟨.eN, .loop⟩) s = .next (pump (notify .gate "WAIT_ENDED" [.text tag] { s with
        inputs := s.inputsWith ⟨.eN, .loop⟩ false, recent := s.recent.set .r1 { tag := none, hold := .stopped },
        gates := { s.gates with entry := gateClosed } }))) ∧
    (∀ tag cause, s.gates.entry.state = .waitHost → s.gates.entry.pendingTag = some tag → (s.bars.get .eN).timer ≠ none →
      (s.bars.get .eN).state = .raising ∧ cause = .travelRaise ∨ (s.bars.get .eN).state = .lowering ∧ cause = .travelLower →
      exec (.travelTimerExpiry .eN) s = .next (pump (notify .gate "REFUSED" [.word "ENTRY", .text tag, .word "BARRIER"]
        (notify .system "BARRIER_FAULT" [.word "EN", .word (FaultCause.word cause)]
          { (s.faulted .eN cause) with gates := { s.gates with entry := gateClosed } }))))

/-! ## Platforms and the allocator -/

/-- A vehicle's passage over a platform (R102 to R104, R106, R159), at the debounce that brings it: the entry beam
broken under an arm that is UP takes a called vehicle on the deck; the entry beam clear behind it starts POSITIONING
and the entry arm down; an outer beam broken while WEIGHING cancels the capture; the exit beam broken and clear marks
the passage and starts the exit arm down; the exit arm DOWN after it frees the platform and hands the visit on as its
outcome says. -/
def Obligations.PlatformPassage : Prop :=
  ∀ (b : Barrier) (l : Line) (p : Platform) (v : Visit) (s : State), s.platUser b = some p →
    (s.inputs.input ⟨b, l⟩).debounce ≠ none → (s.inputs.input ⟨b, l⟩).override = .none →
    (s.inputs.input ⟨b, l⟩).deb = !s.rawLevel ⟨b, l⟩ → (s.platRec p).visit = some v.id → s.visitById v.id = some v →
    ∃ t, exec (.debounceExpiry ⟨b, l⟩) s = .next t ∧ onlyField s t ∧
      (l = .beam → b = s.entryBar p → s.rawLevel ⟨b, l⟩ = true → (s.platRec p).state = .calling →
        (s.bars.get b).state = .up →
        t.platRec p = { s.platRec p with state := .entering, callTimer := none } ∧ onlyPlatform p s t ∧ t.bars = s.bars ∧
        t.visitById v.id = some { v with state := .onDeck, noShows := 0 } ∧ onlyVisit v.id s t ∧ t.queued = s.queued) ∧
      (l = .beam → b = s.entryBar p → s.rawLevel ⟨b, l⟩ = false → (s.platRec p).state = .entering →
        (s.bars.get b).state = .up →
        t.platRec p = { s.platRec p with state := .positioning } ∧ onlyPlatform p s t ∧
        t.bars = s.bars.set b { s.bars.get b with
          state := .lowering, lowerPending := false, lamp := false, timer := some (s.settings.yard.travelLimit * 1000) } ∧
        t.visits = s.visits ∧ t.queued = s.queued) ∧
      (l = .beam → b = s.entryBar p ∨ b = s.exitBar p → s.rawLevel ⟨b, l⟩ = true → (s.platRec p).state = .weighing →
        t.platRec p = { s.platRec p with state := .positioning, holdReason := none, resume := none } ∧ onlyPlatform p s t ∧
        t.chains = s.chains.set p { s.chains.get p with capture := none } ∧ t.visits = s.visits ∧ t.queued = s.queued) ∧
      (l = .beam → b = s.exitBar p → (s.platRec p).state = .exiting → (s.platRec p).passed = false →
        (s.rawLevel ⟨b, l⟩ = true →
          t.platRec p = { s.platRec p with beamSeen := true } ∧ onlyPlatform p s t ∧ t.visits = s.visits ∧
          t.queued = s.queued) ∧
        (s.rawLevel ⟨b, l⟩ = false → (s.platRec p).beamSeen = true → (s.bars.get b).state = .up →
          t.platRec p = { s.platRec p with passed := true } ∧ onlyPlatform p s t ∧
          t.bars = s.bars.set b { s.bars.get b with
            state := .lowering, lowerPending := false, lamp := false, timer := some (s.settings.yard.travelLimit * 1000) } ∧
          t.visits = s.visits ∧ t.queued = s.queued)) ∧
      (l = .down → b = s.exitBar p → s.rawLevel ⟨b, l⟩ = true → s.effective b .up = false → (s.bars.get b).state = .lowering →
        (s.platRec p).state = .exiting → (s.platRec p).passed = true →
        ∀ outcome, (s.platRec p).outcome = some outcome →
          t.platRec p = PlatRec.free (s.settings.plat.ends.get p) ∧ onlyPlatform p s t ∧ onlyVisit v.id s t ∧
          t.bars = s.bars.set b { s.bars.get b with state := .down, timer := none } ∧
          (outcome = .nextTipping → t.visitById v.id = some { v with state := .tipping, leg := .second } ∧
            t.queued = s.queued) ∧
          (outcome = .nextCleared → t.visitById v.id = some { v with state := .cleared } ∧ t.queued = s.queued) ∧
          (outcome = .nextQueued → t.visitById v.id = some { v with state := .queued } ∧ t.queued = s.queued ++ [v.id]))

/-- The visit the grant rule gives a platform (R129): an unmarked entry of an eligible visit, no eligible unmarked entry
of a higher level, none of the same level nearer the head; and the grant marks that entry and is in flight. The rule is
applied (R128), by the model's reading of log 21 at the end of the event, after every event in which a platform becomes
grantable, a visit joins the call queue or a queued one gains ENTERED_SITE, a section 5 write completes, an ACCOUNT_PUT
changes an account that a queued visit carries, or a grant is refused: afterwards no grantable platform without a grant
in flight has an eligible visit unmarked. That the end of STARTING is such an event and makes the first grants itself is
the model's reading of log 50. -/
def Obligations.GrantOfBestVisit : Prop :=
  (∀ (p : Platform) (s : State),
    (∀ id, s.chooseFor p = some id →
      ∃ (k : Nat) (e : QueueEntry) (v : Visit), s.alloc.queue[k]? = some e ∧ e.mark = none ∧ s.visitById e.visit = some v ∧
        v.id = id ∧ s.eligible v p = true ∧
        ∀ (j : Nat) (f : QueueEntry) (u : Visit), s.alloc.queue[j]? = some f → f.mark = none → s.visitById f.visit = some u →
          s.eligible u p = true → s.level u < s.level v ∨ (s.level u = s.level v ∧ k ≤ j)) ∧
    (s.chooseFor p = none →
      ∀ e ∈ s.alloc.queue, ∀ v, e.mark = none → s.visitById e.visit = some v → s.eligible v p = false) ∧
    (∀ id, s.grantable p = true → s.alloc.flight.get p = none → s.chooseFor p = some id →
      grantFor p s = { s with alloc := {
        queue := s.alloc.queue.map fun e => if e.visit = id then { e with mark := some p } else e,
        flight := s.alloc.flight.set p (some id) } }) ∧
    (s.grantable p = false ∨ s.alloc.flight.get p ≠ none ∨ s.chooseFor p = none → grantFor p s = s)) ∧
  (∀ (c : Instr) (s t : State), exec c s = .next t →
    (∃ p, t.grantable p = true ∧ s.grantable p = false) ∨ (∃ id ∈ t.queued, id ∉ s.queued) ∨
      (∃ v ∈ t.visits.table, v.state = .queued ∧ v.entered = true ∧ v ∉ s.visits.table ∧
        ∃ u ∈ s.visits.table, u.id = v.id ∧ u.entered = false) ∨
      (∃ w x, c = .settingsTransferAck ∧ s.settings.write = some w ∧ w.step = .setAccept ∧ w.vals = .plat x) ∨
      (∃ fs q, c = .accountPut fs ∧ s.ready ∧ parseAccountPut fs = some q ∧ accountPutRefusal q = none ∧
        ∃ v ∈ s.visits.table, v.state = .queued ∧ (v.account : Int) = q.number) ∨
      (∃ p id, c = .grant p ∧ s.alloc.flight.get p = some id ∧
        (s.grantable p = false ∨ ∀ v, s.visitById id = some v → v.state ≠ .queued)) →
    t.noneLeft)

/-- A grant that reaches its platform (R98, R99, R125, R129, R130): taken when the platform is grantable and the visit
QUEUED, and otherwise refused back, its entry's mark cleared, with every other grant in flight standing. That a visit
that was held and requeued meanwhile is taken is the model's choice of log 38, and that GRANT has no effect without a
grant in flight that of log 7. -/
def Obligations.GrantArrives : Prop :=
  ∀ (p : Platform) (s : State),
    (s.alloc.flight.get p = none → exec (.grant p) s = .next (pump s)) ∧
    (∀ id v, s.alloc.flight.get p = some id → s.grantable p = true → s.visitById id = some v → v.state = .queued →
      ∃ t, exec (.grant p) s = .next t ∧
        t = { s with beacons := t.beacons, plat := t.plat, alloc := t.alloc, visits := t.visits, link := t.link } ∧
        takesCall p v s t ∧ t.alloc.flight = s.alloc.flight.set p none) ∧
    (∀ id, s.alloc.flight.get p = some id →
      s.grantable p = false ∨ (∀ v, s.visitById id = some v → v.state ≠ .queued) →
      ∃ t, exec (.grant p) s = .next t ∧ t = { s with alloc := t.alloc, link := t.link } ∧ t.queued = s.queued ∧
        (s.grantable p = false → t.alloc.flight.get p = none) ∧
        (∀ e ∈ t.alloc.queue, e.mark = some p → t.alloc.flight.get p = some e.visit) ∧
        ∀ q, q ≠ p → s.alloc.flight.get q ≠ none → t.alloc.flight.get q = s.alloc.flight.get q)

/-- CALL (R133): with its checks met the platform takes the visit, grants in flight standing. -/
def Obligations.CallRequest : Prop :=
  ∀ (f g : Text) (n : Nat) (p : Platform) (v : Visit) (s : State), s.ready → parseDec f = some (n : Int) →
    parseWord Platform.words g = some p → 1 ≤ n → n ≤ 65535 →
    (s.visitById n = none → exec (.call [f, g]) s = .next (s.answered (.err .notFound))) ∧
    (s.visitById n = some v →
      (s.current p = false ∨ (s.platRec p).state ≠ .free ∨ s.platFaulted p = true ∨ s.atRest p = false →
        exec (.call [f, g]) s = .next (s.answered (.err .state))) ∧
      (s.current p = true → (s.platRec p).state = .free → s.platFaulted p = false → s.atRest p = true →
        (s.platSuspended p = true → exec (.call [f, g]) s = .next (s.answered (.err .busy))) ∧
        (s.platSuspended p = false →
          (v.state ≠ .queued ∨ v.entered = false ∨ (v.length = .long ∧ p ≠ .ab) →
            exec (.call [f, g]) s = .next (s.answered (.err .state))) ∧
          (v.state = .queued → v.entered = true → (v.length = .long → p = .ab) →
            ∃ t, exec (.call [f, g]) s = .next t ∧ repliedOk [.num v.id, .word (Platform.word p)] s t ∧
              t = { s with
                beacons := t.beacons, plat := t.plat, alloc := t.alloc, visits := t.visits, watch := t.watch,
                link := t.link } ∧
              takesCall p v s t ∧ t.alloc.flight = s.alloc.flight))))

/-- A call timer's expiry (R101, R131): the entry barrier asked down, the platform FREE, and the visit queued again
with one more no-show, or HELD at the no-show limit. -/
def Obligations.CallExpiry : Prop :=
  ∀ (p : Platform) (v : Visit) (s : State), (s.platRec p).state = .calling → (s.platRec p).callTimer ≠ none →
    (s.platRec p).visit = some v.id → s.visitById v.id = some v →
    ∃ t, exec (.callTimerExpiry p) s = .next t ∧
      t = { s with
        drives := t.drives, beacons := t.beacons, bars := t.bars, plat := t.plat, alloc := t.alloc, visits := t.visits,
        link := t.link } ∧
      t.platRec p = PlatRec.free (s.settings.plat.ends.get p) ∧ onlyPlatform p s t ∧
      t.bars.get (s.entryBar p) = s.loweredDark (s.entryBar p) ∧ onlyBarriers [s.entryBar p] s t ∧ onlyVisit v.id s t ∧
      (v.noShows + 1 < s.settings.yard.noShowLimit →
        t.visitById v.id = some { v with noShows := v.noShows + 1, state := .queued } ∧ t.queued = s.queued ++ [v.id]) ∧
      (s.settings.yard.noShowLimit ≤ v.noShows + 1 →
        t.visitById v.id = some { v with noShows := v.noShows + 1, state := .held, holdReason := some .noShow } ∧
        t.queued = s.queued)

/-- PLATFORM_ABORT (R112): HOLD from the states that take one, and refused in the others. PLATFORM_RETRY (R103, R110):
refused outside HOLD, with a barrier in FAULT and with no resume point; otherwise the platform goes on at its resume
point. At resume point EXIT without an outcome, which no run reaches, that is the model's choice of log 34. -/
def Obligations.AbortAndRetry : Prop :=
  (∀ (f : Text) (p : Platform) (s : State), s.ready → parseWord Platform.words f = some p →
    (∀ point, s.current p = true →
      ((s.platRec p).state = .entering ∨ (s.platRec p).state = .positioning ∨ (s.platRec p).state = .weighing) ∧
          point = .positioning ∨
        (s.platRec p).state = .awaiting ∧ point = .awaiting →
      ∃ t, exec (.platformAbort [f]) s = .next t ∧ repliedOk [] s t ∧
        t = { s with
          chains := t.chains, drives := t.drives, beacons := t.beacons, bars := t.bars, plat := t.plat, alloc := t.alloc,
          watch := t.watch, link := t.link } ∧
        t.chains = s.chains.set p { s.chains.get p with capture := none } ∧ entersHold p .host point s t ∧
        t.queued = s.queued) ∧
    (s.current p = false ∨ (s.platRec p).state = .free ∨ (s.platRec p).state = .calling ∨ (s.platRec p).state = .exiting ∨
        (s.platRec p).state = .hold ∨ (s.platRec p).state = .switching →
      exec (.platformAbort [f]) s = .next (s.answered (.err .state)))) ∧
  (∀ (f : Text) (p : Platform) (s : State), s.ready → parseWord Platform.words f = some p →
    (s.current p = false ∨ (s.platRec p).state ≠ .hold ∨ s.platFaulted p = true ∨ (s.platRec p).resume = none ∨
        (s.platRec p).resume = some .none →
      exec (.platformRetry [f]) s = .next (s.answered (.err .state))) ∧
    (s.current p = true → (s.platRec p).state = .hold → s.platFaulted p = false →
      ((s.platRec p).resume = some .awaiting →
        ∃ t, exec (.platformRetry [f]) s = .next t ∧ repliedOk [.word (Platform.word p), .word "AWAITING"] s t ∧
          t = { s with beacons := t.beacons, plat := t.plat, alloc := t.alloc, watch := t.watch, link := t.link } ∧
          t.platRec p = { s.platRec p with state := .awaiting, holdReason := none, resume := none } ∧ onlyPlatform p s t) ∧
      ((s.platRec p).resume = some .positioning →
        ∃ t, exec (.platformRetry [f]) s = .next t ∧
          t = { s with
            chains := t.chains, beacons := t.beacons, plat := t.plat, alloc := t.alloc, watch := t.watch, link := t.link } ∧
          onlyPlatform p s t ∧
          (s.beamBroken (s.entryBar p) = false → s.beamBroken (s.exitBar p) = false →
            (s.bars.get (s.entryBar p)).state = .down →
            repliedOk [.word (Platform.word p), .word "WEIGHING"] s t ∧
            t.platRec p = { s.platRec p with state := .weighing, holdReason := none, resume := none } ∧
            t.chains = s.chains.set p { s.chains.get p with
              capture := some { lastReason := none, timer := s.settings.weigh.captureTimeout * 1000 } }) ∧
          (s.beamBroken (s.entryBar p) = true ∨ s.beamBroken (s.exitBar p) = true ∨
              (s.bars.get (s.entryBar p)).state ≠ .down →
            repliedOk [.word (Platform.word p), .word "POSITIONING"] s t ∧
            t.platRec p = { s.platRec p with state := .positioning, holdReason := none, resume := none } ∧
            t.chains = s.chains)) ∧
      (∀ outcome, (s.platRec p).resume = some .exit → (s.platRec p).passed = false →
        (s.platRec p).outcome = some outcome →
        ∃ t, exec (.platformRetry [f]) s = .next t ∧ repliedOk [.word (Platform.word p), .word "EXITING"] s t ∧
          t = { s with
            drives := t.drives, beacons := t.beacons, bars := t.bars, plat := t.plat, alloc := t.alloc, watch := t.watch,
            link := t.link } ∧
          releases p outcome s t) ∧
      ((s.platRec p).resume = some .exit → (s.platRec p).passed = false → (s.platRec p).outcome = none →
        ∃ t, exec (.platformRetry [f]) s = .next t ∧ repliedOk [.word (Platform.word p), .word "EXITING"] s t ∧
          t = { s with beacons := t.beacons, plat := t.plat, alloc := t.alloc, watch := t.watch, link := t.link } ∧
          t.platRec p = { s.platRec p with state := .exiting, holdReason := none, resume := none } ∧ onlyPlatform p s t) ∧
      ((s.platRec p).resume = some .exit → (s.platRec p).passed = true → (s.bars.get (s.exitBar p)).state ≠ .down →
        ∃ t, exec (.platformRetry [f]) s = .next t ∧ repliedOk [.word (Platform.word p), .word "EXITING"] s t ∧
          t = { s with
            drives := t.drives, beacons := t.beacons, bars := t.bars, plat := t.plat, alloc := t.alloc, watch := t.watch,
            link := t.link } ∧
          t.platRec p = { s.platRec p with state := .exiting, holdReason := none, resume := none } ∧ onlyPlatform p s t ∧
          t.bars = s.bars.set (s.exitBar p)
            (Bar.lowered (s.beamBroken (s.exitBar p)) s.travelMs (s.bars.get (s.exitBar p)))) ∧
      ((s.platRec p).resume = some .exit → (s.platRec p).passed = true → (s.bars.get (s.exitBar p)).state = .down →
        ∃ t, exec (.platformRetry [f]) s = .next t ∧ repliedOk [.word (Platform.word p), .word "FREE"] s t ∧
          t = { s with
            beacons := t.beacons, plat := t.plat, alloc := t.alloc, visits := t.visits, watch := t.watch,
            link := t.link } ∧
          t.platRec p = PlatRec.free (s.settings.plat.ends.get p) ∧ onlyPlatform p s t)))

/-- PLATFORM_RELEASE (R111, R159, R166, R169): the office voids or requeues a held platform's visit, and the platform
releases its vehicle, or is FREE at once when the vehicle never came on. That REQUEUE clears a recorded net and ZERO_NET
too is the model's reading of log 25. -/
def Obligations.ReleaseRequest : Prop :=
  ∀ (f word : Text) (outcome : ExitOutcome) (p : Platform) (v u : Visit) (s : State), s.ready →
    parseWord Platform.words f = some p →
    word = ascii "VOID" ∧ outcome = .nextCleared ∧ u = v.voidedAs s.tickets.nextTicket ∨
      word = ascii "REQUEUE" ∧ outcome = .nextQueued ∧ u = { v.withoutWeighing with net := none, zeroNet := false } →
    s.current p = true → (s.platRec p).state = .hold → (s.platRec p).visit = some v.id → s.visitById v.id = some v →
    ((s.platRec p).resume = some .positioning ∨ (s.platRec p).resume = some .awaiting →
      ((s.bars.get (s.exitBar p)).state ≠ .fault →
        ∃ t, exec (.platformRelease [f, word]) s = .next t ∧
          repliedOk [.word (Platform.word p), .num v.id, .word (ExitOutcome.word outcome)] s t ∧
          t = { s with
            drives := t.drives, beacons := t.beacons, bars := t.bars, plat := t.plat, alloc := t.alloc, tables := t.tables,
            visits := t.visits, tickets := t.tickets, watch := t.watch, link := t.link } ∧
          releases p outcome s t ∧ onlyVisit v.id s t ∧ t.queued = s.queued ∧
          t.visitById v.id =
            some { u with state := if v.state = .query ∨ v.state = .printWait then .onDeck else v.state } ∧
          (outcome = .nextCleared → writesEntry .void v none s t ∧ t.tables.vehicles = s.tables.vehicles) ∧
          (outcome = .nextQueued → t.tables = s.tables ∧ t.tickets = s.tickets)) ∧
      ((s.bars.get (s.exitBar p)).state = .fault →
        exec (.platformRelease [f, word]) s = .next (s.answered (.err .state)))) ∧
    ((s.platRec p).resume = some .none →
      ∃ t, exec (.platformRelease [f, word]) s = .next t ∧
        repliedOk [.word (Platform.word p), .num v.id, .word (ExitOutcome.word outcome)] s t ∧
        t = { s with
          drives := t.drives, beacons := t.beacons, bars := t.bars, plat := t.plat, alloc := t.alloc, tables := t.tables,
          visits := t.visits, tickets := t.tickets, watch := t.watch, link := t.link } ∧
        t.platRec p = PlatRec.free (s.settings.plat.ends.get p) ∧ onlyPlatform p s t ∧ onlyVisit v.id s t ∧
        (outcome = .nextCleared →
          t.visitById v.id = some { u with state := .cleared } ∧ writesEntry .void v none s t ∧
            t.tables.vehicles = s.tables.vehicles ∧ t.queued = s.queued) ∧
        (outcome = .nextQueued →
          t.visitById v.id = some { u with state := .queued } ∧ t.queued = s.queued ++ [v.id] ∧ t.tables = s.tables ∧
            t.tickets = s.tickets)) ∧
    ((s.platRec p).resume = some .exit → exec (.platformRelease [f, word]) s = .next (s.answered (.err .state)))

/-- PLATFORM_ACCEPT (R113): the flags of the decks it names; nothing changes when they stand so already. PLATFORM_MODE
(R114, R115, R116): the mode in force changes nothing; another request during SWITCHING abandons the switch; a switch
asks the inner barriers to the new mode's place and waits for both, or completes at once when both stand there. A switch
under way completes when an inner barrier's arrival finds both in place, goes on while one is not, and fails when an
inner barrier enters FAULT (R14, R34, R115, R116). -/
def Obligations.AcceptAndMode : Prop :=
  (∀ (f : Text) (p : Platform) (v : Bool) (x : PerDeck Bool) (s : State), s.ready → parseWord Platform.words f = some p →
    x = { a := if p = .b then s.plat.accepting.a else v, b := if p = .a then s.plat.accepting.b else v } →
    ∃ fields, fields = [Field.word (if x.a then "ACCEPTING" else "CLOSED"), .word (if x.b then "ACCEPTING" else "CLOSED")] ∧
      (x = s.plat.accepting →
        exec (.platformAccept [f, ascii (if v then "ACCEPTING" else "CLOSED")]) s = .next (s.answered (.ok fields))) ∧
      (x ≠ s.plat.accepting →
        ∃ t, exec (.platformAccept [f, ascii (if v then "ACCEPTING" else "CLOSED")]) s = .next t ∧ repliedOk fields s t ∧
          t = { s with plat := t.plat, alloc := t.alloc, watch := t.watch, link := t.link } ∧ t.plat.accepting = x ∧
          t.plat.mode = s.plat.mode ∧ t.plat.target = s.plat.target ∧ t.plat.recs = s.plat.recs ∧ t.queued = s.queued)) ∧
  (∀ (f : Text) (m : Mode) (s : State), s.ready → parseWord Mode.words f = some m →
    (s.plat.target = none → m = s.plat.mode → exec (.platformMode [f]) s = .next (s.answered (.ok [.word (Mode.word m)]))) ∧
    (s.plat.target = some m → exec (.platformMode [f]) s = .next (s.answered (.err .state))) ∧
    (∀ code, s.plat.target = none → m ≠ s.plat.mode → modeRefusal s m = some code →
      exec (.platformMode [f]) s = .next (s.answered (.err code))) ∧
    (∀ m', s.plat.target = some m' → m' ≠ m →
      ∃ t, exec (.platformMode [f]) s = .next t ∧ repliedOk [.word (Mode.word m)] s t ∧
        t = { s with
          drives := t.drives, beacons := t.beacons, bars := t.bars, plat := t.plat, alloc := t.alloc, watch := t.watch,
          link := t.link } ∧ t.queued = s.queued ∧
        failsSwitch s t) ∧
    (s.plat.target = none → m ≠ s.plat.mode → modeRefusal s m = none →
      ∃ t, exec (.platformMode [f]) s = .next t ∧ repliedOk [.word (Mode.word m)] s t ∧
        t = { s with
          intakes := t.intakes, sync := t.sync, chains := t.chains, drives := t.drives, beacons := t.beacons, bars := t.bars,
          plat := t.plat, alloc := t.alloc, watch := t.watch, link := t.link } ∧ t.queued = s.queued ∧
        onlyBarriers [.aS, .bN] s t ∧
        (m = .combined → t.bars.aS = Bar.raised s.travelMs s.bars.aS ∧ t.bars.bN = Bar.raised s.travelMs s.bars.bN) ∧
        (m = .split → t.bars.aS = s.loweredDark .aS ∧ t.bars.bN = s.loweredDark .bN) ∧
        (¬(s.bars.aS.state = innerTarget m ∧ s.bars.bN.state = innerTarget m) →
          t.plat.mode = s.plat.mode ∧ t.plat.target = some m ∧ t.chains = s.chains ∧ t.intakes = s.intakes ∧
          ∀ p ∈ Mode.platforms s.plat.mode, t.platRec p = { s.platRec p with state := .switching }) ∧
        (s.bars.aS.state = innerTarget m → s.bars.bN.state = innerTarget m →
          switches m s t))) ∧
  (∀ (m : Mode) (b other : Barrier) (l : Line) (p : Platform) (s : State), s.plat.target = some m →
    b = .aS ∧ other = .bN ∨ b = .bN ∧ other = .aS → s.platUser b = some p → (s.platRec p).state = .switching →
    (∀ rest, (m = .combined ∧ l = .up ∧ (s.bars.get b).state = .raising ∧ s.effective b .down = false ∧
          ((s.bars.get b).lowerPending = false ∨ s.beamBroken b = true) ∧ rest = .up) ∨
        (m = .split ∧ l = .down ∧ (s.bars.get b).state = .lowering ∧ s.effective b .up = false ∧ rest = .down) →
      s.brings ⟨b, l⟩ true →
      ∃ t, exec (.debounceExpiry ⟨b, l⟩) s = .next t ∧
        t = { s with
          intakes := t.intakes, sync := t.sync, chains := t.chains, inputs := s.inputsWith ⟨b, l⟩ true, drives := t.drives,
          beacons := t.beacons, bars := s.bars.set b { s.bars.get b with state := rest, timer := none }, plat := t.plat,
          alloc := t.alloc, link := t.link } ∧
        t.queued = s.queued ∧ onlyBarriers [b] s t ∧
        ((s.bars.get other).state = innerTarget m → switches m s t) ∧
        ((s.bars.get other).state ≠ innerTarget m →
          t.plat = s.plat ∧ t.chains = s.chains ∧ t.intakes = s.intakes ∧ t.sync = s.sync)) ∧
    (∀ c f, s.faults c b f →
      ∃ t, exec c s = .next t ∧ failsSwitch f t ∧ t.queued = s.queued ∧
        t = { f with
          drives := t.drives, beacons := t.beacons, bars := t.bars, plat := t.plat, alloc := t.alloc, link := t.link }))

/-! ## Tables, visits, journal and printers -/

/-- VEHICLE_PUT and VEHICLE_DELETE (R136, R138, R139, R140): a record no open visit holds is replaced in its slot, an
unknown tag takes the lowest empty slot, and a delete empties the slot; a held record is refused. ACCOUNT_PUT,
ACCOUNT_STATUS and ACCOUNT_DELETE (R143, R144, R145): the record under the number alone changes, an old one keeping
its status, day_used and reserved; account 0 is never suspended nor deleted, nor an account in use deleted. -/
def Obligations.TableWrites : Prop :=
  (∀ (fs : List Text) (tag : Text) (q : VehiclePut) (s : State), s.ready →
    (parseVehiclePut fs = some q → q.inRange = true → (s.account q.account.toNat).isSome = true →
      (∀ slot old, s.vehicleByTag q.tag = some (slot, old) → s.holderOf slot = none →
        ∃ t tare, tare = (if q.keep then old.tare else none) ∧ exec (.vehiclePut fs) s = .next t ∧
          repliedOk [.text q.tag, .word "REPLACED", yesNo tare.isSome] s t ∧
          t = { s with tables := t.tables, watch := t.watch, link := t.link } ∧
          vehicleSlot slot (some
            { tag := q.tag, registration := q.registration, account := q.account.toNat, cls := q.cls.toNat, length := q.length,
              direction := q.direction, estimate := q.estimate.toNat, tare := tare, validity := q.validity.toNat,
              blocked := q.blocked, refreshTare := q.refresh }) s t) ∧
      (s.tablesSound → s.vehicleByTag q.tag = none → s.tables.vehicles.length < 1024 →
        ∃ t slot, exec (.vehiclePut fs) s = .next t ∧ repliedOk [.text q.tag, .word "INSERTED", .word "N"] s t ∧
          tabGet s.tables.vehicles slot = none ∧ (∀ k, k < slot → tabGet s.tables.vehicles k ≠ none) ∧
          t = { s with tables := t.tables, watch := t.watch, link := t.link } ∧
          vehicleSlot slot (some
            { tag := q.tag, registration := q.registration, account := q.account.toNat, cls := q.cls.toNat, length := q.length,
              direction := q.direction, estimate := q.estimate.toNat, tare := none, validity := q.validity.toNat,
              blocked := q.blocked, refreshTare := q.refresh }) s t) ∧
      (∀ slot old, s.vehicleByTag q.tag = some (slot, old) → s.holderOf slot ≠ none →
        exec (.vehiclePut fs) s = .next (s.answered (.err .inUse))) ∧
      (s.vehicleByTag q.tag = none → 1024 ≤ s.tables.vehicles.length →
        exec (.vehiclePut fs) s = .next (s.answered (.err .full)))) ∧
    (∀ slot v, tagOk tag = true → s.vehicleByTag tag = some (slot, v) →
      (s.holderOf slot = none →
        ∃ t, exec (.vehicleDelete [tag]) s = .next t ∧ repliedOk [.text v.tag] s t ∧
          t = { s with tables := t.tables, watch := t.watch, link := t.link } ∧ vehicleSlot slot none s t) ∧
      (s.holderOf slot ≠ none → exec (.vehicleDelete [tag]) s = .next (s.answered (.err .inUse))))) ∧
  (∀ (fs : List Text) (f : Text) (q : AccountPut) (n : Nat) (s : State), s.ready →
    (parseAccountPut fs = some q → accountPutRefusal q = none → q.number = (n : Int) →
      ∃ t, exec (.accountPut fs) s = .next t ∧
        repliedOk [.num n, .word (if (s.account n).isSome then "CHANGED" else "CREATED")] s t ∧
        t = { s with alloc := t.alloc, tables := t.tables, watch := t.watch, link := t.link } ∧ t.queued = s.queued ∧
        accountPlace n (some
          { name := q.name, active := ((s.account n).map (·.active)).getD true, allowance := q.allowance.map Int.toNat,
            dayUsed := ((s.account n).map (·.dayUsed)).getD 0, reserved := ((s.account n).map (·.reserved)).getD 0,
            mask := q.mask, tarePermitted := q.tarePermitted }) s t) ∧
    (∀ a, parseDec f = some (n : Int) → n ≤ 127 → s.account n = some a →
      (∃ t, exec (.accountStatus [f, ascii "ACTIVE"]) s = .next t ∧ repliedOk [.num n, .word "ACTIVE"] s t ∧
        t = { s with tables := t.tables, watch := t.watch, link := t.link } ∧
        accountPlace n (some { a with active := true }) s t) ∧
      (n ≠ 0 →
        ∃ t, exec (.accountStatus [f, ascii "SUSPENDED"]) s = .next t ∧ repliedOk [.num n, .word "SUSPENDED"] s t ∧
          t = { s with tables := t.tables, watch := t.watch, link := t.link } ∧
          accountPlace n (some { a with active := false }) s t) ∧
      (n = 0 → exec (.accountStatus [f, ascii "SUSPENDED"]) s = .next (s.answered (.err .state)) ∧
        exec (.accountDelete [f]) s = .next (s.answered (.err .state))) ∧
      (n ≠ 0 → (∀ e ∈ s.tables.vehicles, e.2.account ≠ n) → (∀ v ∈ s.visits.table, v.account ≠ n) →
        ∃ t, exec (.accountDelete [f]) s = .next t ∧ repliedOk [.num n] s t ∧
          t = { s with tables := t.tables, watch := t.watch, link := t.link } ∧ accountPlace n none s t) ∧
      (n ≠ 0 → (∃ e ∈ s.tables.vehicles, e.2.account = n) ∨ (∃ v ∈ s.visits.table, v.account = n) →
        exec (.accountDelete [f]) s = .next (s.answered (.err .inUse)))))

/-- VISIT_RESOLVE (R162): a visit in QUERY is completed with a net of 0 or waits for the printer, voided, or weighed
again; one in another state is refused. -/
def Obligations.ResolveRequest : Prop :=
  ∀ (f : Text) (n : Nat) (v : Visit) (s : State), s.ready → parseDec f = some (n : Int) → 1 ≤ n → n ≤ 65535 →
    s.visitById n = some v →
    (∀ p, v.state = .query → s.platformOf v.id = some p →
      (s.platRec p).state = .awaiting ∨ (s.platRec p).state = .hold →
      (s.printRoom p →
        ∃ t, exec (.visitResolve [f, ascii "ACCEPT_ZERO"]) s = .next t ∧
          repliedOk [.num v.id, .word "ACCEPT_ZERO", .num s.tickets.nextTicket] s t ∧
          t = { s with
            drives := t.drives, beacons := t.beacons, bars := t.bars, plat := t.plat, alloc := t.alloc, tables := t.tables,
            visits := t.visits, tickets := t.tickets, watch := t.watch, link := t.link } ∧ t.queued = s.queued ∧
          completes p { v with net := some 0, zeroNet := true } s t) ∧
      (¬s.printRoom p →
        ∃ t, exec (.visitResolve [f, ascii "ACCEPT_ZERO"]) s = .next t ∧
          repliedOk [.num v.id, .word "ACCEPT_ZERO", optNum v.ticket] s t ∧
          t = { s with alloc := t.alloc, visits := t.visits, watch := t.watch, link := t.link } ∧ t.queued = s.queued ∧
          t.visitById v.id = some { v with net := some 0, zeroNet := true, state := .printWait } ∧ onlyVisit v.id s t) ∧
      (∃ t, exec (.visitResolve [f, ascii "VOID"]) s = .next t ∧
        repliedOk [.num v.id, .word "VOID", .num s.tickets.nextTicket] s t ∧
        t = { s with
          drives := t.drives, beacons := t.beacons, bars := t.bars, plat := t.plat, alloc := t.alloc, tables := t.tables,
          visits := t.visits, tickets := t.tickets, watch := t.watch, link := t.link } ∧ t.queued = s.queued ∧
        writesEntry .void v none s t ∧ t.tables.vehicles = s.tables.vehicles ∧ onlyVisit v.id s t ∧
        t.visitById v.id = some { v.voidedAs s.tickets.nextTicket with state := .onDeck } ∧
        exitTaken p .nextCleared s t) ∧
      (∃ t, exec (.visitResolve [f, ascii "REWEIGH"]) s = .next t ∧ repliedOk [.num v.id, .word "REWEIGH"] s t ∧
        t = { s with
          chains := t.chains, beacons := t.beacons, plat := t.plat, alloc := t.alloc, visits := t.visits, watch := t.watch,
          link := t.link } ∧ t.queued = s.queued ∧
        t.visitById v.id = some { v.withoutWeighing with state := .onDeck } ∧ onlyVisit v.id s t ∧ onlyPlatform p s t ∧
        ((s.platRec p).state = .awaiting →
          (t.platRec p).state = .positioning ∧ t.chains = s.chains ∨ (t.platRec p).state = .weighing) ∧
        ((s.platRec p).state = .hold →
          t.platRec p = { s.platRec p with resume := some .positioning } ∧ t.chains = s.chains))) ∧
    (∀ a, parseWord ResolveAction.words a ≠ none → v.state ≠ .query →
      exec (.visitResolve [f, a]) s = .next (s.answered (.err .state)))

/-- CANCEL, HOLD_VISIT and REQUEUE (R167, R168): a visit that no platform holds is closed, held or queued again; in
the other states they are refused. That no gate is open any more for a visit that is closed is the model's reading of
log 36. -/
def Obligations.VisitCommands : Prop :=
  ∀ (f : Text) (n : Nat) (v : Visit) (s : State), s.ready → parseDec f = some (n : Int) → 1 ≤ n → n ≤ 65535 →
    s.visitById n = some v →
    (v.state = .queued ∨ v.state = .tipping ∨ v.state = .held ∨ v.state = .cleared →
      ∃ t, exec (.cancel [f]) s = .next t ∧
        repliedOk [.num v.id, if v.journalled then .empty else .num s.tickets.nextTicket] s t ∧
        t = { s with
          gates := t.gates, alloc := t.alloc, tables := t.tables, visits := t.visits, tickets := t.tickets, watch := t.watch,
          link := t.link } ∧
        (∀ g, t.gates.get g = { s.gates.get g with
          openFor := if (s.gates.get g).openFor = some v.id then none else (s.gates.get g).openFor }) ∧
        t.visits = { s.visits with table := s.visits.table.filter fun u => u.id != v.id } ∧
        t.queued = (if v.state = .queued then s.queued.filter fun id => id != v.id else s.queued) ∧
        (v.journalled = true → t.tables = s.tables ∧ t.tickets = s.tickets) ∧
        (v.journalled = false → writesEntry .void v none s t ∧ t.tables.vehicles = s.tables.vehicles)) ∧
    (v.state = .called ∨ v.state = .onDeck ∨ v.state = .query ∨ v.state = .printWait →
      exec (.cancel [f]) s = .next (s.answered (.err .state))) ∧
    (v.state = .queued ∨ v.state = .tipping →
      ∃ t, exec (.holdVisit [f]) s = .next t ∧ repliedOk [.num v.id] s t ∧
        t = { s with alloc := t.alloc, visits := t.visits, watch := t.watch, link := t.link } ∧
        t.visitById v.id = some { v with state := .held, holdReason := some .host } ∧ onlyVisit v.id s t ∧
        t.queued = s.queued.filter fun id => id != v.id) ∧
    (v.state ≠ .queued → v.state ≠ .tipping → exec (.holdVisit [f]) s = .next (s.answered (.err .state))) ∧
    (v.state = .held →
      ∃ t, exec (.requeue [f]) s = .next t ∧ repliedOk [.num v.id, .num (s.alloc.queue.length + 1 : Nat)] s t ∧
        t = { s with alloc := t.alloc, visits := t.visits, watch := t.watch, link := t.link } ∧
        t.visitById v.id = some { v with state := .queued, holdReason := none, noShows := 0 } ∧ onlyVisit v.id s t ∧
        t.queued = s.queued ++ [v.id]) ∧
    (v.state ≠ .held → exec (.requeue [f]) s = .next (s.answered (.err .state)))

/-- JOURNAL_RELEASE, REPRINT and PRINT_SUPPRESS (R165, R178, R179, R180, R184, R185): the oldest entries leave; a copy
joins a queue that has room, and begins to print at a READY printer; suppression is set, and set on it lets a waiting
visit complete. -/
def Obligations.JournalAndPrint : Prop :=
  ∀ (f g : Text) (n : Nat) (p : Printer) (s : State), s.ready →
    (parseDec f = some (n : Int) → 1 ≤ n → n ≤ s.tickets.journal.length →
      exec (.journalRelease [f]) s =
        .next (State.answered { s with tickets := { s.tickets with journal := s.tickets.journal.drop n } }
          (.ok [.num (s.tickets.journal.length - n : Nat), match s.tickets.journal[n]? with
            | some e => .num e.ticket
            | none => .empty]))) ∧
    (parseWord Printer.words g = some p → parseDec f = some (n : Int) → 1 ≤ n → n ≤ 999999 →
      (∀ e, s.tickets.journal.find? (fun e => e.ticket == n) = some e → (s.printer p).queue.length < 4 →
        ∃ t copy, exec (.reprint [f, g]) s = .next t ∧
          repliedOk [.num n, .word (Printer.word p), .num ((s.printer p).queue.length + 1 : Nat)] s t ∧
          copy = { content := e, accountName := ((s.account e.account).map (·.name)).getD [], copy := true, reprint := false } ∧
          ((s.printer p).state ≠ .ready →
            t = State.answered (s.modPrinter p fun r => { r with queue := r.queue ++ [copy] })
              (.ok [.num n, .word (Printer.word p), .num ((s.printer p).queue.length + 1 : Nat)])) ∧
          ((s.printer p).state = .ready → (s.printer p).queue = [] →
            t = State.answered (s.modPrinter p fun r => { r with
                state := .printing, sending := some (ticketText s.settings.ticket copy),
                queue := [{ copy with reprint := true }] })
              (.ok [.num n, .word (Printer.word p), .num ((s.printer p).queue.length + 1 : Nat)]))) ∧
      (s.tickets.journal.find? (fun e => e.ticket == n) = none →
        exec (.reprint [f, g]) s = .next (s.answered (.err .notFound))) ∧
      (s.tickets.journal.find? (fun e => e.ticket == n) ≠ none → 4 ≤ (s.printer p).queue.length →
        exec (.reprint [f, g]) s = .next (s.answered (.err .full)))) ∧
    (∀ on, parseWord Printer.words f = some p → parseWord onOffWords g = some on →
      ((s.printer p).suppressed = on →
        exec (.printSuppress [f, g]) s =
          .next (s.answered (.ok [.word (Printer.word p), .word (if on then "ON" else "OFF")]))) ∧
      ((s.printer p).suppressed ≠ on → on = false ∨ s.noPrintWait p →
        exec (.printSuppress [f, g]) s =
          .next (State.answered
            (notify .system "SUPPRESS" [.word (Printer.word p), .word (if on then "ON" else "OFF")]
              (s.modPrinter p fun r => { r with suppressed := on }))
            (.ok [.word (Printer.word p), .word (if on then "ON" else "OFF")]))) ∧
      (∀ q v, (s.printer p).suppressed = false → on = true → platformOfPrinter s.plat.mode p = some q →
        s.boundVisit q = some v → v.state = .printWait → v.net ≠ none →
        ∃ t, exec (.printSuppress [f, g]) s = .next t ∧ repliedOk [.word (Printer.word p), .word "ON"] s t ∧
          completes q v (s.modPrinter p fun r => { r with suppressed := true }) t ∧ t.queued = s.queued))

/-- A status character from a printer, and its status timer's expiry (R180, R181, R182): what each state makes of R,
B, P and E. -/
def Obligations.PrinterStatus : Prop :=
  ∀ (p : Printer) (s : State),
    (s.running = false → ∀ c, exec (.printerStatusChar p c) s = .next (pump s)) ∧
    (∀ c, c ≠ 0x52 → c ≠ 0x42 → c ≠ 0x50 → c ≠ 0x45 → exec (.printerStatusChar p c) s = .next (pump s)) ∧
    (s.running = true →
      ((s.printer p).state = .printing → (s.printer p).sending = none →
        exec (.printerStatusChar p 0x42) s = .next (pump (s.modPrinter p fun r => { r with statusTimer := some 30000 })) ∧
        ((s.printer p).queue.length ≠ 4 ∨ s.noPrintWait p →
          (∀ h, (s.printer p).queue = [h] →
            exec (.printerStatusChar p 0x52) s =
              .next (pump (s.modPrinter p fun r => { r with state := .ready, statusTimer := none, queue := [] }))) ∧
          (∀ h k ks, (s.printer p).queue = h :: k :: ks →
            exec (.printerStatusChar p 0x52) s =
              .next (pump (s.modPrinter p fun r => { r with
                state := .printing, statusTimer := none, sending := some (ticketText s.settings.ticket k),
                queue := { k with reprint := true } :: ks })))) ∧
        (∀ q v, (s.printer p).queue.length = 4 → platformOfPrinter s.plat.mode p = some q → s.boundVisit q = some v →
          v.state = .printWait → v.net ≠ none →
          ∃ t, exec (.printerStatusChar p 0x52) s = .next t ∧ t.queued = s.queued ∧ (t.printer p).state = .printing ∧
            completes q v (s.modPrinter p fun r => { r with queue := r.queue.drop 1 }) t)) ∧
      ((s.printer p).state = .printing → (s.printer p).sending ≠ none →
        exec (.printerStatusChar p 0x52) s = .next (pump s) ∧ exec (.printerStatusChar p 0x42) s = .next (pump s)) ∧
      (∀ c, ((s.printer p).state = .ready ∧ (c = 0x52 ∨ c = 0x42)) ∨ ((s.printer p).state = .paperOut ∧ (c = 0x42 ∨ c = 0x50)) ∨
          ((s.printer p).state = .offline ∧ (c = 0x42 ∨ c = 0x45)) →
        exec (.printerStatusChar p c) s = .next (pump s)) ∧
      ((s.printer p).state ≠ .paperOut →
        exec (.printerStatusChar p 0x50) s =
          .next (pump (notify .system "PRINTER" [.word (Printer.word p), .word "PAPER_OUT", headTicket (s.printer p)]
            (s.modPrinter p fun r => { r with
              state := .paperOut, sending := none, statusTimer := none, enquiryTimer := some 5000 })))) ∧
      ((s.printer p).state ≠ .offline →
        exec (.printerStatusChar p 0x45) s =
          .next (pump (notify .system "PRINTER" [.word (Printer.word p), .word "OFFLINE", headTicket (s.printer p)]
            (s.modPrinter p fun r => { r with
              state := .offline, sending := none, statusTimer := none, enquiryTimer := some 5000 })))) ∧
      ((s.printer p).state = .paperOut ∨ (s.printer p).state = .offline →
        ((s.printer p).queue = [] →
          exec (.printerStatusChar p 0x52) s =
            .next (pump (notify .system "PRINTER" [.word (Printer.word p), .word "READY", .empty]
              (s.modPrinter p fun r => { r with state := .ready, enquiryTimer := none })))) ∧
        (∀ h hs, (s.printer p).queue = h :: hs →
          exec (.printerStatusChar p 0x52) s =
            .next (pump (notify .system "PRINTER" [.word (Printer.word p), .word "READY", .num h.content.ticket]
              (s.modPrinter p fun r => { r with
                state := .printing, enquiryTimer := none, sending := some (ticketText s.settings.ticket h),
                queue := { h with reprint := true } :: hs })))))) ∧
    ((s.printer p).state = .printing → (s.printer p).statusTimer ≠ none →
      exec (.statusTimerExpiry p) s =
        .next (pump (notify .system "PRINTER" [.word (Printer.word p), .word "OFFLINE", headTicket (s.printer p)]
          (s.modPrinter p fun r => { r with
            state := .offline, sending := none, statusTimer := none, enquiryTimer := some 5000 }))))

/-! ## Time, settings and start-up -/

/-- A 1 s tick (R39, R149, R189, R190): the second advances, and from 86,399 the day; a new day with TIME_VALID is a
rollover, and without it none. A platform that meets the tracking test takes A into its working zero, or where that
would pass its zero limit sets ZERO_RANGE, with its notice the first time (R40). While STARTING none is issued. TIME_SET
(R192): the clock and the last valid day take the day, and a day other than the one in force
is a rollover. -/
def Obligations.SecondTickAndTimeSet : Prop :=
  (∀ s : State,
    (s.running = false → exec .oneSecondTick s = .next (pump s)) ∧
    (s.running = true →
      ((∀ p, s.current p = true → s.trackingA p = none) →
        (s.time.second < 86399 →
          exec .oneSecondTick s = .next (pump { s with time := { s.time with subMs := 0, second := s.time.second + 1 } })) ∧
        (86399 ≤ s.time.second →
          ∃ day, day = (if s.time.day < 65535 then s.time.day + 1 else 0) ∧
            (s.time.valid = false →
              exec .oneSecondTick s = .next (pump { s with time := { s.time with subMs := 0, second := 0, day := day } })) ∧
            (s.time.valid = true →
              exec .oneSecondTick s = .next (pump (notify .system "ROLLOVER" [.num day, .word "CLOCK"] { s with
                time := { s.time with subMs := 0, second := 0, day := day, lastValid := some day },
                tables := { s.tables with accounts := s.tables.accounts.map fun e => (e.1, { e.2 with dayUsed := 0 }) } }))))) ∧
      (∀ p a, s.current p = true → s.settings.weigh.zeroTracking = true → (s.platRec p).state = .free →
        s.platSuspended p = false → (s.chains.get p).pendingZero = false → (s.chains.get p).latest.flags.valid = true →
        (s.chains.get p).latest.flags.stable = true → (s.chains.get p).latest.a = some a → 0 < a.natAbs →
        a.natAbs ≤ 500 * s.divisionOf p →
        ∃ t, exec .oneSecondTick s = .next t ∧
          t = { s with chains := t.chains, tables := t.tables, time := t.time, link := t.link } ∧
          (∀ q, s.current q = false → t.chains.get q = s.chains.get q) ∧
          (((s.chains.get p).z + a - s.zRef p).natAbs ≤ s.maxOf p * 20 →
            t.chains.get p =
              { s.chains.get p with z := (s.chains.get p).z + a, zeroRange := false, pendingZero := true }) ∧
          (s.maxOf p * 20 < ((s.chains.get p).z + a - s.zRef p).natAbs →
            t.chains.get p = { s.chains.get p with zeroRange := true } ∧
            ((s.chains.get p).zeroRange = false → (∀ q, s.current q = true → q ≠ p → s.trackingA q = none) →
              s.time.second < 86399 →
              t = pump (notify .weigh "ZERO_RANGE" [.word (Platform.word p), .num ((s.chains.get p).z + a - s.zRef p)]
                { s with
                  time := { s.time with subMs := 0, second := s.time.second + 1 },
                  chains := s.chains.set p { s.chains.get p with zeroRange := true } })))))) ∧
  (∀ (f g : Text) (d n : Nat) (rolls : Bool) (s : State), s.ready → parseDec f = some (d : Int) → parseDec g = some (n : Int) →
    (rolls = true ↔ (s.time.valid = true ∧ d ≠ s.time.day) ∨ (s.time.valid = false ∧ s.time.lastValid ≠ some d)) →
    (d ≤ 65535 → n ≤ 86399 →
      (rolls = false →
        exec (.timeSet [f, g]) s =
          .next (State.answered { s with
            time := { s.time with day := d, second := n, subMs := 0, valid := true, lastValid := some d } }
            (.ok [.num d, .num n, .word "NONE"]))) ∧
      (rolls = true →
        exec (.timeSet [f, g]) s =
          .next (State.answered
            (notify .system "ROLLOVER" [.num d, .word "TIME_SET"] { s with
              time := { s.time with day := d, second := n, subMs := 0, valid := true, lastValid := some d },
              tables := { s.tables with accounts := s.tables.accounts.map fun e => (e.1, { e.2 with dayUsed := 0 }) } })
            (.ok [.num d, .num n, .word "ROLLOVER"])))) ∧
    (65535 < d ∨ 86399 < n → exec (.timeSet [f, g]) s = .next (s.answered (.err .range))))

/-- The link silence timer (R86, R195, R196, R197): LINK_WATCH arms it or keeps or shortens its period; its expiry, ONLINE,
takes the part OFFLINE, latches every enabled class and ends WAIT_HOST, and OFFLINE or stopped it has no effect (the
model's choice of log 7); a frame with good framing brings the part back ONLINE, with a LATCHED notice for each class
enabled and latched, which clears the latch, and then LINK_RESTORED. The time OFFLINE, which it tells, is counted from 0
by the model's reading of log 14. -/
def Obligations.LinkSilence : Prop :=
  ∀ s : State,
    (∀ (f : Text) (p : Nat), s.ready → parseDec f = some (p : Int) → 5 ≤ p → p ≤ 300 →
      (s.watch.period = some p →
        exec (.linkWatch [f]) s = .next (s.answered (.ok [.num p]))) ∧
      (s.watch.period ≠ some p → (∀ q, s.watch.period = some q → p ≤ q) →
        exec (.linkWatch [f]) s =
          .next (State.answered (notify .system "WATCH" [.num p] { s with watch := { s.watch with period := some p } })
            (.ok [.num p]))) ∧
      (∀ q, s.watch.period = some q → q < p → exec (.linkWatch [f]) s = .next (s.answered (.err .state)))) ∧
    (s.watch.timer ≠ none → s.watch.online = true →
      ∃ t, exec .silenceTimerExpiry s = .next t ∧ t = { s with gates := t.gates, watch := t.watch, link := t.link } ∧
        t.watch = { s.watch with online := false, timer := none, offlineMs := 0 } ∧ t.link.notices = [] ∧
        (∀ c, (t.link.classes.get c).enabled = (s.link.classes.get c).enabled ∧
          ((t.link.classes.get c).latched = ((s.link.classes.get c).latched || (s.link.classes.get c).enabled))) ∧
        ((s.gates.get .entry).state = .waitHost → t.gates = { s.gates with entry := gateClosed }) ∧
        ((s.gates.get .entry).state ≠ .waitHost → t.gates = s.gates)) ∧
    (s.watch.timer = none ∨ s.watch.online = false → exec .silenceTimerExpiry s = .next (pump s)) ∧
    (∀ chars frame n fs, arrivesAs s.link.assembly chars frame → parseFrame frame = .good n fs → s.link.started = true →
      s.watch.online = false →
      ∃ t, exec (.officeFrameEnd chars) s = .next t ∧ t.watch.online = true ∧
        t.watch.timer = t.watch.period.map (fun p => p * 1000) ∧ t.watch.offlineMs = 0 ∧
        (n = none → s.link.inService = none → s.link.owed = [] → s.link.notices = [] →
          t = { s with watch := t.watch, link := t.link } ∧ t.watch.period = s.watch.period ∧
          t.link.inService = some ⟨.err .unknown, false⟩ ∧
          t.link.notices =
            (([.gate, .platform, .weigh, .visit, .system].filter fun c =>
              (s.link.classes.get c).enabled && (s.link.classes.get c).latched).map fun c =>
                ⟨"LATCHED", [.word (NoticeClass.word c)]⟩) ++
            (if s.link.classes.system.enabled then
              [⟨"LINK_RESTORED", [.num (min (s.watch.offlineMs / 1000) 65535 : Nat)]⟩] else []) ∧
          ∀ c, t.link.classes.get c = { s.link.classes.get c with
            latched := (s.link.classes.get c).latched && !(s.link.classes.get c).enabled }))

/-- SETTINGS_WRITE (R213, R214): refused BUSY while a write is in flight, and STATE for a calibration section of a
deck whose platform is not FREE; taken, its first transfer awaits its acknowledgement, and nothing is live yet. -/
def Obligations.SettingsWriteRequest : Prop :=
  ∀ (f : Text) (rest : List Text) (n : Nat) (v : SectionVals) (s : State), s.ready → parseDec f = some (n : Int) → 1 ≤ n →
    n ≤ 7 → parseSection n rest = .ok v →
    (s.settings.write ≠ none → exec (.settingsWrite (f :: rest)) s = .next (s.answered (.err .busy))) ∧
    (∀ d c, v = .cal d c → s.settings.write = none → (s.platRec (s.userOfDeck d)).state ≠ .free →
      exec (.settingsWrite (f :: rest)) s = .next (s.answered (.err .state))) ∧
    (s.settings.write = none → (∀ d c, v = .cal d c → (s.platRec (s.userOfDeck d)).state = .free) →
      exec (.settingsWrite (f :: rest)) s =
        .next (State.answered
          { s with settings := { s.settings with
            write := some { vals := v, step := if s.settings.headerBad then .header else .clearAccept, timer := 20 } } }
          (.ok [.num n])))

/-- An acknowledged transfer of a write (R214): the bytes of its step are in the settings memory and no others change,
and the next step's transfer awaits its acknowledgement. At step 3 the counter goes up by one, and the part's copy of it
with it. That the bytes stand at the acknowledgement, that a cleared accept word is 0x0000 and that the memory's own
counter decides whether step 3 is taken is the model's reading of log 16. -/
def Obligations.TransferGoesOn : Prop :=
  ∀ (w : Write) (s : State), s.memSound → s.settings.write = some w → w.step ≠ .setAccept →
    ∃ t next, exec .settingsTransferAck s = .next t ∧
      t = { s with settings := t.settings, link := t.link } ∧
      t.settings.write = some { vals := w.vals, step := next, timer := 20 } ∧
      (w.step = .header → next = .clearAccept) ∧
      (w.step = .clearAccept →
        next = if w.vals.number ≤ 2 ∧ memNat t.settings.mem 4 2 < 65535 then .counter else .fields) ∧
      (w.step = .counter → next = .fields) ∧ (w.step = .fields → next = .setAccept) ∧
      (∀ k, t.liveSection k = s.liveSection k) ∧ t.settings.status = s.settings.status ∧
      (w.step = .header → ∀ a, memRead t.settings.mem a =
        if a = 0 then 0x56 else if a = 1 then 0x59 else if a = 2 then 0x00 else if a = 3 then 0x01
        else memRead s.settings.mem a) ∧
      (w.step = .clearAccept → ∀ a, memRead t.settings.mem a =
        if a = sectionBase w.vals.number ∨ a = sectionBase w.vals.number + 1 then 0x00 else memRead s.settings.mem a) ∧
      (w.step = .counter → (∀ a, a ≠ 4 → a ≠ 5 → memRead t.settings.mem a = memRead s.settings.mem a) ∧
        (memNat s.settings.mem 4 2 < 65535 →
          memNat t.settings.mem 4 2 = memNat s.settings.mem 4 2 + 1 ∧ t.settings.counter = memNat t.settings.mem 4 2)) ∧
      (w.step ≠ .counter → t.settings.counter = s.settings.counter) ∧
      (w.step = .fields → ∀ a, (∀ c ∈ w.vals.chunks, a < c.1 ∨ c.1 + c.2.length ≤ a) →
        memRead t.settings.mem a = memRead s.settings.mem a) ∧
      (w.step = .fields → (∀ d c, w.vals = .cal d c → c.offsets.length ≤ 8 ∧ c.trims.length ≤ 8) →
        ∀ c ∈ w.vals.chunks, ∀ k (h : k < c.2.length), memRead t.settings.mem (c.1 + k) = c.2[k])

/-- The acknowledgement of the last transfer (R214): the accept word is set, the section is live and ACCEPTED, the
other sections stand, and the write is over. A calibration section takes effect on its deck (R16) and on the zeros of
its platform and of AB, whose ZERO_RANGE flags are cleared and whose pending-zero marks are set (R44); section 3
restarts the filters of the current platforms (R25); section 4 reads anew each input whose polarity it changes, delivers
a changed effective level, and without one reaches nothing else (R58). A transfer that is not acknowledged in time (R214):
the write ends, the live settings and statuses stand; at step 3 the counter in the memory stays or goes up by one. That
no byte outside the transfer's own changes is the model's choice of log 4, and that an acknowledged transfer's bytes then
stand its reading of log 16. -/
def Obligations.WriteCompletesOrFails : Prop :=
  (∀ (w : Write) (s : State), s.memSound → s.settings.write = some w → w.step = .setAccept →
    ∃ t, exec .settingsTransferAck s = .next t ∧ t.settings.write = none ∧
      t.liveSection w.vals.number = w.vals ∧ t.settings.status = s.settings.status.set w.vals.number .accepted ∧
      (∀ k, 1 ≤ k → k ≤ 7 → k ≠ w.vals.number → t.liveSection k = s.liveSection k) ∧
      (∀ a, memRead t.settings.mem a =
        if a = sectionBase w.vals.number then 0xC3 else if a = sectionBase w.vals.number + 1 then 0x5A
        else memRead s.settings.mem a) ∧
      t = { s with
        intakes := t.intakes, sync := t.sync, chains := t.chains, inputs := t.inputs, drives := t.drives,
        beacons := t.beacons, bars := t.bars, recent := t.recent, gates := t.gates, plat := t.plat, alloc := t.alloc,
        visits := t.visits, link := t.link, settings := t.settings } ∧
      (∀ d c, w.vals = .cal d c →
        (t.chains.get (deckPlatform d)).z = c.zCal ∧ (t.chains.get (deckPlatform d)).pendingZero = true ∧
        (t.chains.get (deckPlatform d)).zeroRange = false ∧ t.chains.ab.z = t.chains.a.z + t.chains.b.z ∧
        t.chains.ab.pendingZero = true ∧ t.chains.ab.zeroRange = false ∧
        (∀ e : Deck, e ≠ d → t.chains.get (deckPlatform e) = s.chains.get (deckPlatform e)) ∧
        (t.intakes.get d).cells = List.replicate c.n { faulted := false, badRun := 0, goodRun := 0, last := 0 } ∧
        (t.chains.get (s.userOfDeck d)).window = [] ∧ (t.chains.get (s.userOfDeck d)).stab = []) ∧
      (∀ x, w.vals = .weigh x →
        t = { s with chains := t.chains, link := t.link, settings := t.settings } ∧
        ∀ p, t.chains.get p =
          if s.current p = true then { s.chains.get p with window := [], stab := [] } else s.chains.get p) ∧
      (∀ y, w.vals = .yard y →
        (∀ i, t.inputs.input i =
          if (y.inputs.input i).activeLow = (s.inputSet i).activeLow then s.inputs.input i
          else { s.inputs.input i with deb := (s.inputs.input i).high != (y.inputs.input i).activeLow, debounce := none }) ∧
        ((∀ i, Input.effective (t.inputs.input i) = Input.effective (s.inputs.input i)) →
          t = { s with inputs := t.inputs, link := t.link, settings := t.settings }))) ∧
  (∀ (w : Write) (s : State), s.memSound → s.settings.write = some w →
    ∃ t, exec .settingsTransferTimeout s = .next t ∧ t.settings.write = none ∧
      t = { s with
        chains := t.chains, alloc := t.alloc, link := t.link, settings := t.settings, freeCount := t.freeCount } ∧
      t.queued = s.queued ∧
      (∀ k, t.liveSection k = s.liveSection k) ∧ t.settings.status = s.settings.status ∧
      t.settings.counter = s.settings.counter ∧
      (∀ a, (∀ c ∈ stepChunks s.settings.mem w, a < c.1 ∨ c.1 + c.2.length ≤ a) →
        memRead t.settings.mem a = memRead s.settings.mem a) ∧
      (w.step = .setAccept → t.settings.mem = s.settings.mem) ∧
      (w.step = .counter → memNat s.settings.mem 4 2 < 65535 →
        memNat t.settings.mem 4 2 = memNat s.settings.mem 4 2 ∨
          memNat t.settings.mem 4 2 = memNat s.settings.mem 4 2 + 1))

/-- RESTART (R217) is answered OK, and its reply is the one whose end resets the part. The office link starts while
STARTING (R200, R210) at the rate just loaded; that OFFICE_LINK_START has no effect later is the model's choice of log 7.
A reset (R211, R215, R216, R217), by power, by the reset input, or by the end of a RESTART's reply: the part is STARTING
with the settings loaded, by the model's choice of log 15 in the reset event, every output OFF and the link not started,
at 19,200 baud by that of log 45; what is retained stands, after a COLD reset until STARTING ends by that of log 24. -/
def Obligations.ResetAndLinkStart : Prop :=
  (∀ s : State,
    (s.ready → exec (.restart []) s = .next { s.heard with link := { s.link with
      assembly := [], gap := none, inService := some ⟨.ok [], true⟩, sending := match s.link.sending with
        | some f => some f
        | none => some (.reply ⟨.ok [], true⟩) } }) ∧
    (∀ f fs, s.ready → exec (.restart (f :: fs)) s = .next (s.answered (.err .args))) ∧
    (s.running = false → s.link.started = false →
      exec .officeLinkStart s = .next { s with link := OfficeLink.reset true s.settings.ticket.rate }) ∧
    (s.running = true ∨ s.link.started = true → exec .officeLinkStart s = .next (pump s))) ∧
  (∀ (bkok kept : Bool) (u : Unacked) (c : Instr) (kind : ResetKind) (good : Bool) (s : State),
    (c = .powerOn bkok kept u ∧ good = (s.part.signatureGood && kept) ∧ kind = (if bkok && good then .warm else .cold)) ∨
      (c = .resetInput u ∧ good = s.part.signatureGood ∧ kind = (if good then .warm else .cold)) ∨
      (c = .officeFrameSent u ∧ (∃ r, s.link.sending = some (.reply ⟨r, true⟩)) ∧ good = s.part.signatureGood ∧
        kind = (if good then .warm else .cold)) →
    ∃ t, exec c s = .next t ∧ t.part = { phase := .starting, lastReset := kind, signatureGood := good } ∧
      (∀ b, t.drives.get b = { raise := false, lower := false, green := false }) ∧ t.beacons = { a := false, b := false } ∧
      t.sync = false ∧ t.link = OfficeLink.reset false 1 ∧ t.watch = Watch.reset ∧ t.readerErrors = 0 ∧
      t.settings = loadSettings u t.settings.mem ∧ (s.settings.write = none → t.settings.mem = s.settings.mem) ∧
      (t.time.day = 0 ∧ t.time.second = 0 ∧ t.time.valid = false ∧ t.time.lastValid = s.time.lastValid) ∧
      t.nextCapture = s.nextCapture ∧ t.tables = s.tables ∧ t.visits = s.visits ∧ t.tickets.journal = s.tickets.journal ∧
      t.tickets.nextTicket = s.tickets.nextTicket ∧ t.plat.mode = s.plat.mode ∧ t.plat.target = s.plat.target ∧
      t.plat.accepting = s.plat.accepting ∧ t.queued = s.queued ∧ t.pending = s.pending)

/-- The end of STARTING (R61, R72, R121, R122, R132, R152, R172, R187, R215, R216): RUNNING with the signature good; after a
COLD reset every retained state at its COLD value, after a WARM one the tables, the journal and the numbers as they
stood, a platform in HOLD still in HOLD and the visits of the calling platforms withdrawn to the queue's tail; every
input read anew; a barrier in FAULT exactly when both its limits are active. That the link is started here where it was
not is the model's choice of log 24. -/
def Obligations.StartingEnd : Prop :=
  ∀ s : State, s.running = false →
    ∃ t, exec .startingEnd s = .next t ∧
      t.part = { phase := .running, lastReset := s.part.lastReset, signatureGood := true } ∧ t.link.started = true ∧
      (∀ i, t.inputs.input i =
        { high := (s.inputs.input i).high, deb := s.rawLevel i, override := .none, debounce := none }) ∧
      (∀ b, (t.bars.get b).state = .fault ↔ s.rawLevel ⟨b, .up⟩ = true ∧ s.rawLevel ⟨b, .down⟩ = true) ∧
      t.drivesFollow ∧ t.beamsSafe ∧ t.beaconsFollow ∧ t.readerErrors = 0 ∧
      t.settings = s.settings ∧ t.pending = s.pending ∧
      (∀ p, (t.printer p).state = .offline ∧ (t.printer p).enquiryTimer = some 5000 ∧ (t.printer p).statusTimer = none ∧
        (t.printer p).sending = none ∧ (t.printer p).suppressed = false) ∧
      (s.part.lastReset = .cold →
        t.nextCapture = 1 ∧ t.tables = { vehicles := [], accounts := [(0,
          { name := ascii "CASH", active := true, allowance := none, dayUsed := 0, reserved := 0,
            mask := { a := true, b := true, ab := true }, tarePermitted := false })] } ∧
        t.visits = { table := [], nextId := 1 } ∧ t.tickets.journal = [] ∧ t.tickets.nextTicket = 1 ∧
        (∀ p, (t.printer p).queue = []) ∧ t.queued = [] ∧ t.plat.accepting = { a := true, b := true } ∧
        t.plat.target = none ∧ (∀ p, t.platRec p = PlatRec.free (s.settings.plat.ends.get p)) ∧
        (t.plat.mode = .combined ↔ s.settings.plat.defaultMode = .combined ∧ s.pairCalibrated = true) ∧
        t.time.lastValid = none) ∧
      (s.part.lastReset = .warm →
        t.nextCapture = s.nextCapture ∧ t.tables = s.tables ∧ t.visits.nextId = s.visits.nextId ∧
        t.tickets.journal = s.tickets.journal ∧ t.tickets.nextTicket = s.tickets.nextTicket ∧
        (∀ p, (t.printer p).queue = (s.printer p).queue) ∧ t.plat.mode = s.plat.mode ∧ t.plat.target = none ∧
        t.plat.accepting = s.plat.accepting ∧ t.time.lastValid = s.time.lastValid ∧
        (∃ back, back = (Mode.platforms s.plat.mode).filterMap (fun p =>
            if (s.platRec p).state = .calling then (s.platRec p).visit else none) ∧
          t.queued = s.queued ++ back ∧
          t.visits.table = s.visits.table.map fun v => if v.id ∈ back then { v with state := .queued } else v) ∧
        ∀ p, s.current p = true →
          ((s.platRec p).state = .free ∨ (s.platRec p).state = .switching ∨ (s.platRec p).state = .calling →
            (t.platRec p).state = .free ∧ (t.platRec p).visit = none) ∧
          (((s.platRec p).state = .entering ∨ (s.platRec p).state = .positioning ∨ (s.platRec p).state = .weighing ∨
              (s.platRec p).state = .awaiting ∨ (s.platRec p).state = .exiting) →
            (t.platRec p).state = .hold ∧ (t.platRec p).holdReason = some .reset ∧
            (t.platRec p).visit = (s.platRec p).visit) ∧
          ((s.platRec p).state = .hold →
            t.platRec p = { s.platRec p with
              callTimer := none, wrong := false,
              beamSeen := (s.platRec p).beamSeen && decide ((s.platRec p).resume ≠ some .exit),
              passed := (s.platRec p).passed && decide ((s.platRec p).resume ≠ some .exit) }))

/-! ## The small events -/

/-- The events that change one record alone: a hold timer (R77), an abandoned report, counted unless its '#' came in
STARTING (R74), the sync pulse (R13), which ends whatever pulses have run together by the model's choice of log 49, the
sign line (R118), a ticket's text (R180), an enquiry (R182), counted in the field enqSent, the model's own by log 19. -/
def Obligations.SmallEvents : Prop :=
  ∀ s : State,
    (∀ r n, (s.recent.get r).hold = .running n →
      exec (.repeatHoldExpiry r) s =
        .next (pump { s with recent := s.recent.set r { s.recent.get r with hold := .expired } })) ∧
    (∀ report, s.running = true → report.begunStarting = false →
      exec (.readerReportAbandoned report) s = .next (pump { s with readerErrors := countAfter s.readerErrors })) ∧
    (∀ report, s.running = false ∨ report.begunStarting = true →
      exec (.readerReportAbandoned report) s = .next (pump s)) ∧
    exec .syncPulseEnd s = .next (pump { s with sync := false }) ∧
    (s.plat.signs.sending ≠ none →
      (s.plat.signs.waiting = [] →
        exec .signMessageSent s =
          .next (pump { s with plat := { s.plat with signs := { s.plat.signs with sending := none } } })) ∧
      (∀ d m rest, s.plat.signs.waiting = (d, m) :: rest →
        exec .signMessageSent s =
          .next (pump { s with plat := { s.plat with signs :=
            { lastSent := s.plat.signs.lastSent.set d (some m), waiting := rest, sending := some (d, m) } } }))) ∧
    (∀ p, (s.printer p).sending ≠ none →
      exec (.ticketTextSent p) s =
        .next (pump (s.modPrinter p fun r => { r with sending := none, statusTimer := some 30000 }))) ∧
    (∀ p, (s.printer p).enquiryTimer ≠ none →
      exec (.enquiryTimerExpiry p) s =
        .next (pump (s.modPrinter p fun r => { r with enquiryTimer := some 5000, enqSent := r.enqSent + 1 })))
end

