-- ==== Sys2Proof/Laws/State.lean ====
section
/-! SUPPORT. What each update of the state changes and keeps: one lemma a field. -/

namespace Sys2Proof.Machine

/-! ## Containers -/

@[simp] theorem PerDeck.get_set_same {α : Type} (m : PerDeck α) (d : Deck) (v : α) : (m.set d v).get d = v := by
  cases d <;> rfl

theorem PerDeck.get_set_other {α : Type} (m : PerDeck α) {d e : Deck} (v : α) (h : e ≠ d) : (m.set d v).get e = m.get e := by
  cases d <;> cases e <;> first | rfl | exact absurd rfl h

@[simp] theorem PerDeck.set_get {α : Type} (m : PerDeck α) (d : Deck) : m.set d (m.get d) = m := by
  cases d <;> rfl

@[simp] theorem PerPlatform.get_set_same {α : Type} (m : PerPlatform α) (p : Platform) (v : α) : (m.set p v).get p = v := by
  cases p <;> rfl

theorem PerPlatform.get_set_other {α : Type} (m : PerPlatform α) {p q : Platform} (v : α) (h : q ≠ p) : (m.set p v).get q = m.get q := by
  cases p <;> cases q <;> first | rfl | exact absurd rfl h

@[simp] theorem PerPlatform.set_get {α : Type} (m : PerPlatform α) (p : Platform) : m.set p (m.get p) = m := by
  cases p <;> rfl

@[simp] theorem PerBarrier.get_set_same {α : Type} (m : PerBarrier α) (b : Barrier) (v : α) : (m.set b v).get b = v := by
  cases b <;> rfl

theorem PerBarrier.get_set_other {α : Type} (m : PerBarrier α) {b c : Barrier} (v : α) (h : c ≠ b) : (m.set b v).get c = m.get c := by
  cases b <;> cases c <;> first | rfl | exact absurd rfl h

@[simp] theorem PerBarrier.set_get {α : Type} (m : PerBarrier α) (b : Barrier) : m.set b (m.get b) = m := by
  cases b <;> rfl

@[simp] theorem PerLine.get_set_same {α : Type} (m : PerLine α) (l : Line) (v : α) : (m.set l v).get l = v := by
  cases l <;> rfl

theorem PerLine.get_set_other {α : Type} (m : PerLine α) {l k : Line} (v : α) (h : k ≠ l) : (m.set l v).get k = m.get k := by
  cases l <;> cases k <;> first | rfl | exact absurd rfl h

@[simp] theorem PerLine.set_get {α : Type} (m : PerLine α) (l : Line) : m.set l (m.get l) = m := by
  cases l <;> rfl

@[simp] theorem PerReader.get_set_same {α : Type} (m : PerReader α) (r : Reader) (v : α) : (m.set r v).get r = v := by
  cases r <;> rfl

theorem PerReader.get_set_other {α : Type} (m : PerReader α) {r q : Reader} (v : α) (h : q ≠ r) : (m.set r v).get q = m.get q := by
  cases r <;> cases q <;> first | rfl | exact absurd rfl h

@[simp] theorem PerReader.set_get {α : Type} (m : PerReader α) (r : Reader) : m.set r (m.get r) = m := by
  cases r <;> rfl

@[simp] theorem PerGate.get_set_same {α : Type} (m : PerGate α) (g : Gate) (v : α) : (m.set g v).get g = v := by
  cases g <;> rfl

theorem PerGate.get_set_other {α : Type} (m : PerGate α) {g k : Gate} (v : α) (h : k ≠ g) : (m.set g v).get k = m.get k := by
  cases g <;> cases k <;> first | rfl | exact absurd rfl h

@[simp] theorem PerGate.set_get {α : Type} (m : PerGate α) (g : Gate) : m.set g (m.get g) = m := by
  cases g <;> rfl

@[simp] theorem PerPrinter.get_set_same {α : Type} (m : PerPrinter α) (p : Printer) (v : α) : (m.set p v).get p = v := by
  cases p <;> rfl

theorem PerPrinter.get_set_other {α : Type} (m : PerPrinter α) {p q : Printer} (v : α) (h : q ≠ p) : (m.set p v).get q = m.get q := by
  cases p <;> cases q <;> first | rfl | exact absurd rfl h

@[simp] theorem PerPrinter.set_get {α : Type} (m : PerPrinter α) (p : Printer) : m.set p (m.get p) = m := by
  cases p <;> rfl

@[simp] theorem PerClass.get_set_same (m : PerClass) (c : NoticeClass) (v : ClassRec) : (m.set c v).get c = v := by
  cases c <;> rfl

theorem PerClass.get_set_other (m : PerClass) {c k : NoticeClass} (v : ClassRec) (h : k ≠ c) : (m.set c v).get k = m.get k := by
  cases c <;> cases k <;> first | rfl | exact absurd rfl h

@[simp] theorem PerBarrier.input_setInput_same {α : Type} (m : PerBarrier (PerLine α)) (i : InputId) (v : α) :
    (m.setInput i v).input i = v := by
  simp [PerBarrier.input, PerBarrier.setInput]

theorem PerBarrier.input_setInput_other {α : Type} (m : PerBarrier (PerLine α)) {i j : InputId} (v : α) (h : j ≠ i) :
    (m.setInput i v).input j = m.input j := by
  obtain ⟨b, l⟩ := i
  obtain ⟨c, k⟩ := j
  unfold PerBarrier.input PerBarrier.setInput
  by_cases hb : c = b
  · subst hb
    have hk : k ≠ l := fun e => h (by rw [e])
    simp [PerLine.get_set_other _ _ hk]
  · simp [PerBarrier.get_set_other _ _ hb]

/-! ## State.modIntake -/

@[simp] theorem State.modIntake_part (s : State) (d : Deck) (f : Intake → Intake) : (s.modIntake d f).part = s.part := rfl
@[simp] theorem State.modIntake_intakes (s : State) (d : Deck) (f : Intake → Intake) : (s.modIntake d f).intakes = s.intakes.set d (f (s.intakes.get d)) := rfl
@[simp] theorem State.modIntake_sync (s : State) (d : Deck) (f : Intake → Intake) : (s.modIntake d f).sync = s.sync := rfl
@[simp] theorem State.modIntake_chains (s : State) (d : Deck) (f : Intake → Intake) : (s.modIntake d f).chains = s.chains := rfl
@[simp] theorem State.modIntake_nextCapture (s : State) (d : Deck) (f : Intake → Intake) : (s.modIntake d f).nextCapture = s.nextCapture := rfl
@[simp] theorem State.modIntake_inputs (s : State) (d : Deck) (f : Intake → Intake) : (s.modIntake d f).inputs = s.inputs := rfl
@[simp] theorem State.modIntake_drives (s : State) (d : Deck) (f : Intake → Intake) : (s.modIntake d f).drives = s.drives := rfl
@[simp] theorem State.modIntake_beacons (s : State) (d : Deck) (f : Intake → Intake) : (s.modIntake d f).beacons = s.beacons := rfl
@[simp] theorem State.modIntake_bars (s : State) (d : Deck) (f : Intake → Intake) : (s.modIntake d f).bars = s.bars := rfl
@[simp] theorem State.modIntake_recent (s : State) (d : Deck) (f : Intake → Intake) : (s.modIntake d f).recent = s.recent := rfl
@[simp] theorem State.modIntake_readerErrors (s : State) (d : Deck) (f : Intake → Intake) : (s.modIntake d f).readerErrors = s.readerErrors := rfl
@[simp] theorem State.modIntake_gates (s : State) (d : Deck) (f : Intake → Intake) : (s.modIntake d f).gates = s.gates := rfl
@[simp] theorem State.modIntake_plat (s : State) (d : Deck) (f : Intake → Intake) : (s.modIntake d f).plat = s.plat := rfl
@[simp] theorem State.modIntake_alloc (s : State) (d : Deck) (f : Intake → Intake) : (s.modIntake d f).alloc = s.alloc := rfl
@[simp] theorem State.modIntake_tables (s : State) (d : Deck) (f : Intake → Intake) : (s.modIntake d f).tables = s.tables := rfl
@[simp] theorem State.modIntake_visits (s : State) (d : Deck) (f : Intake → Intake) : (s.modIntake d f).visits = s.visits := rfl
@[simp] theorem State.modIntake_tickets (s : State) (d : Deck) (f : Intake → Intake) : (s.modIntake d f).tickets = s.tickets := rfl
@[simp] theorem State.modIntake_time (s : State) (d : Deck) (f : Intake → Intake) : (s.modIntake d f).time = s.time := rfl
@[simp] theorem State.modIntake_watch (s : State) (d : Deck) (f : Intake → Intake) : (s.modIntake d f).watch = s.watch := rfl
@[simp] theorem State.modIntake_link (s : State) (d : Deck) (f : Intake → Intake) : (s.modIntake d f).link = s.link := rfl
@[simp] theorem State.modIntake_settings (s : State) (d : Deck) (f : Intake → Intake) : (s.modIntake d f).settings = s.settings := rfl
@[simp] theorem State.modIntake_freeCount (s : State) (d : Deck) (f : Intake → Intake) : (s.modIntake d f).freeCount = s.freeCount := rfl
@[simp] theorem State.modIntake_pending (s : State) (d : Deck) (f : Intake → Intake) : (s.modIntake d f).pending = s.pending := rfl

/-! ## State.modCounts -/

@[simp] theorem State.modCounts_part (s : State) (d : Deck) (f : Counters → Counters) : (s.modCounts d f).part = s.part := rfl
@[simp] theorem State.modCounts_sync (s : State) (d : Deck) (f : Counters → Counters) : (s.modCounts d f).sync = s.sync := rfl
@[simp] theorem State.modCounts_chains (s : State) (d : Deck) (f : Counters → Counters) : (s.modCounts d f).chains = s.chains := rfl
@[simp] theorem State.modCounts_nextCapture (s : State) (d : Deck) (f : Counters → Counters) : (s.modCounts d f).nextCapture = s.nextCapture := rfl
@[simp] theorem State.modCounts_inputs (s : State) (d : Deck) (f : Counters → Counters) : (s.modCounts d f).inputs = s.inputs := rfl
@[simp] theorem State.modCounts_drives (s : State) (d : Deck) (f : Counters → Counters) : (s.modCounts d f).drives = s.drives := rfl
@[simp] theorem State.modCounts_beacons (s : State) (d : Deck) (f : Counters → Counters) : (s.modCounts d f).beacons = s.beacons := rfl
@[simp] theorem State.modCounts_bars (s : State) (d : Deck) (f : Counters → Counters) : (s.modCounts d f).bars = s.bars := rfl
@[simp] theorem State.modCounts_recent (s : State) (d : Deck) (f : Counters → Counters) : (s.modCounts d f).recent = s.recent := rfl
@[simp] theorem State.modCounts_readerErrors (s : State) (d : Deck) (f : Counters → Counters) : (s.modCounts d f).readerErrors = s.readerErrors := rfl
@[simp] theorem State.modCounts_gates (s : State) (d : Deck) (f : Counters → Counters) : (s.modCounts d f).gates = s.gates := rfl
@[simp] theorem State.modCounts_plat (s : State) (d : Deck) (f : Counters → Counters) : (s.modCounts d f).plat = s.plat := rfl
@[simp] theorem State.modCounts_alloc (s : State) (d : Deck) (f : Counters → Counters) : (s.modCounts d f).alloc = s.alloc := rfl
@[simp] theorem State.modCounts_tables (s : State) (d : Deck) (f : Counters → Counters) : (s.modCounts d f).tables = s.tables := rfl
@[simp] theorem State.modCounts_visits (s : State) (d : Deck) (f : Counters → Counters) : (s.modCounts d f).visits = s.visits := rfl
@[simp] theorem State.modCounts_tickets (s : State) (d : Deck) (f : Counters → Counters) : (s.modCounts d f).tickets = s.tickets := rfl
@[simp] theorem State.modCounts_time (s : State) (d : Deck) (f : Counters → Counters) : (s.modCounts d f).time = s.time := rfl
@[simp] theorem State.modCounts_watch (s : State) (d : Deck) (f : Counters → Counters) : (s.modCounts d f).watch = s.watch := rfl
@[simp] theorem State.modCounts_link (s : State) (d : Deck) (f : Counters → Counters) : (s.modCounts d f).link = s.link := rfl
@[simp] theorem State.modCounts_settings (s : State) (d : Deck) (f : Counters → Counters) : (s.modCounts d f).settings = s.settings := rfl
@[simp] theorem State.modCounts_freeCount (s : State) (d : Deck) (f : Counters → Counters) : (s.modCounts d f).freeCount = s.freeCount := rfl
@[simp] theorem State.modCounts_pending (s : State) (d : Deck) (f : Counters → Counters) : (s.modCounts d f).pending = s.pending := rfl

/-! ## State.modChain -/

@[simp] theorem State.modChain_part (s : State) (p : Platform) (f : Chain → Chain) : (s.modChain p f).part = s.part := rfl
@[simp] theorem State.modChain_intakes (s : State) (p : Platform) (f : Chain → Chain) : (s.modChain p f).intakes = s.intakes := rfl
@[simp] theorem State.modChain_sync (s : State) (p : Platform) (f : Chain → Chain) : (s.modChain p f).sync = s.sync := rfl
@[simp] theorem State.modChain_chains (s : State) (p : Platform) (f : Chain → Chain) : (s.modChain p f).chains = s.chains.set p (f (s.chains.get p)) := rfl
@[simp] theorem State.modChain_nextCapture (s : State) (p : Platform) (f : Chain → Chain) : (s.modChain p f).nextCapture = s.nextCapture := rfl
@[simp] theorem State.modChain_inputs (s : State) (p : Platform) (f : Chain → Chain) : (s.modChain p f).inputs = s.inputs := rfl
@[simp] theorem State.modChain_drives (s : State) (p : Platform) (f : Chain → Chain) : (s.modChain p f).drives = s.drives := rfl
@[simp] theorem State.modChain_beacons (s : State) (p : Platform) (f : Chain → Chain) : (s.modChain p f).beacons = s.beacons := rfl
@[simp] theorem State.modChain_bars (s : State) (p : Platform) (f : Chain → Chain) : (s.modChain p f).bars = s.bars := rfl
@[simp] theorem State.modChain_recent (s : State) (p : Platform) (f : Chain → Chain) : (s.modChain p f).recent = s.recent := rfl
@[simp] theorem State.modChain_readerErrors (s : State) (p : Platform) (f : Chain → Chain) : (s.modChain p f).readerErrors = s.readerErrors := rfl
@[simp] theorem State.modChain_gates (s : State) (p : Platform) (f : Chain → Chain) : (s.modChain p f).gates = s.gates := rfl
@[simp] theorem State.modChain_plat (s : State) (p : Platform) (f : Chain → Chain) : (s.modChain p f).plat = s.plat := rfl
@[simp] theorem State.modChain_alloc (s : State) (p : Platform) (f : Chain → Chain) : (s.modChain p f).alloc = s.alloc := rfl
@[simp] theorem State.modChain_tables (s : State) (p : Platform) (f : Chain → Chain) : (s.modChain p f).tables = s.tables := rfl
@[simp] theorem State.modChain_visits (s : State) (p : Platform) (f : Chain → Chain) : (s.modChain p f).visits = s.visits := rfl
@[simp] theorem State.modChain_tickets (s : State) (p : Platform) (f : Chain → Chain) : (s.modChain p f).tickets = s.tickets := rfl
@[simp] theorem State.modChain_time (s : State) (p : Platform) (f : Chain → Chain) : (s.modChain p f).time = s.time := rfl
@[simp] theorem State.modChain_watch (s : State) (p : Platform) (f : Chain → Chain) : (s.modChain p f).watch = s.watch := rfl
@[simp] theorem State.modChain_link (s : State) (p : Platform) (f : Chain → Chain) : (s.modChain p f).link = s.link := rfl
@[simp] theorem State.modChain_settings (s : State) (p : Platform) (f : Chain → Chain) : (s.modChain p f).settings = s.settings := rfl
@[simp] theorem State.modChain_freeCount (s : State) (p : Platform) (f : Chain → Chain) : (s.modChain p f).freeCount = s.freeCount := rfl
@[simp] theorem State.modChain_pending (s : State) (p : Platform) (f : Chain → Chain) : (s.modChain p f).pending = s.pending := rfl

/-! ## State.modInput -/

@[simp] theorem State.modInput_part (s : State) (i : InputId) (f : Input → Input) : (s.modInput i f).part = s.part := rfl
@[simp] theorem State.modInput_intakes (s : State) (i : InputId) (f : Input → Input) : (s.modInput i f).intakes = s.intakes := rfl
@[simp] theorem State.modInput_sync (s : State) (i : InputId) (f : Input → Input) : (s.modInput i f).sync = s.sync := rfl
@[simp] theorem State.modInput_chains (s : State) (i : InputId) (f : Input → Input) : (s.modInput i f).chains = s.chains := rfl
@[simp] theorem State.modInput_nextCapture (s : State) (i : InputId) (f : Input → Input) : (s.modInput i f).nextCapture = s.nextCapture := rfl
@[simp] theorem State.modInput_inputs (s : State) (i : InputId) (f : Input → Input) : (s.modInput i f).inputs = s.inputs.setInput i (f (s.inputs.input i)) := rfl
@[simp] theorem State.modInput_drives (s : State) (i : InputId) (f : Input → Input) : (s.modInput i f).drives = s.drives := rfl
@[simp] theorem State.modInput_beacons (s : State) (i : InputId) (f : Input → Input) : (s.modInput i f).beacons = s.beacons := rfl
@[simp] theorem State.modInput_bars (s : State) (i : InputId) (f : Input → Input) : (s.modInput i f).bars = s.bars := rfl
@[simp] theorem State.modInput_recent (s : State) (i : InputId) (f : Input → Input) : (s.modInput i f).recent = s.recent := rfl
@[simp] theorem State.modInput_readerErrors (s : State) (i : InputId) (f : Input → Input) : (s.modInput i f).readerErrors = s.readerErrors := rfl
@[simp] theorem State.modInput_gates (s : State) (i : InputId) (f : Input → Input) : (s.modInput i f).gates = s.gates := rfl
@[simp] theorem State.modInput_plat (s : State) (i : InputId) (f : Input → Input) : (s.modInput i f).plat = s.plat := rfl
@[simp] theorem State.modInput_alloc (s : State) (i : InputId) (f : Input → Input) : (s.modInput i f).alloc = s.alloc := rfl
@[simp] theorem State.modInput_tables (s : State) (i : InputId) (f : Input → Input) : (s.modInput i f).tables = s.tables := rfl
@[simp] theorem State.modInput_visits (s : State) (i : InputId) (f : Input → Input) : (s.modInput i f).visits = s.visits := rfl
@[simp] theorem State.modInput_tickets (s : State) (i : InputId) (f : Input → Input) : (s.modInput i f).tickets = s.tickets := rfl
@[simp] theorem State.modInput_time (s : State) (i : InputId) (f : Input → Input) : (s.modInput i f).time = s.time := rfl
@[simp] theorem State.modInput_watch (s : State) (i : InputId) (f : Input → Input) : (s.modInput i f).watch = s.watch := rfl
@[simp] theorem State.modInput_link (s : State) (i : InputId) (f : Input → Input) : (s.modInput i f).link = s.link := rfl
@[simp] theorem State.modInput_settings (s : State) (i : InputId) (f : Input → Input) : (s.modInput i f).settings = s.settings := rfl
@[simp] theorem State.modInput_freeCount (s : State) (i : InputId) (f : Input → Input) : (s.modInput i f).freeCount = s.freeCount := rfl
@[simp] theorem State.modInput_pending (s : State) (i : InputId) (f : Input → Input) : (s.modInput i f).pending = s.pending := rfl

/-! ## State.modGate -/

@[simp] theorem State.modGate_part (s : State) (g : Gate) (f : GateRec → GateRec) : (s.modGate g f).part = s.part := rfl
@[simp] theorem State.modGate_intakes (s : State) (g : Gate) (f : GateRec → GateRec) : (s.modGate g f).intakes = s.intakes := rfl
@[simp] theorem State.modGate_sync (s : State) (g : Gate) (f : GateRec → GateRec) : (s.modGate g f).sync = s.sync := rfl
@[simp] theorem State.modGate_chains (s : State) (g : Gate) (f : GateRec → GateRec) : (s.modGate g f).chains = s.chains := rfl
@[simp] theorem State.modGate_nextCapture (s : State) (g : Gate) (f : GateRec → GateRec) : (s.modGate g f).nextCapture = s.nextCapture := rfl
@[simp] theorem State.modGate_inputs (s : State) (g : Gate) (f : GateRec → GateRec) : (s.modGate g f).inputs = s.inputs := rfl
@[simp] theorem State.modGate_drives (s : State) (g : Gate) (f : GateRec → GateRec) : (s.modGate g f).drives = s.drives := rfl
@[simp] theorem State.modGate_beacons (s : State) (g : Gate) (f : GateRec → GateRec) : (s.modGate g f).beacons = s.beacons := rfl
@[simp] theorem State.modGate_bars (s : State) (g : Gate) (f : GateRec → GateRec) : (s.modGate g f).bars = s.bars := rfl
@[simp] theorem State.modGate_recent (s : State) (g : Gate) (f : GateRec → GateRec) : (s.modGate g f).recent = s.recent := rfl
@[simp] theorem State.modGate_readerErrors (s : State) (g : Gate) (f : GateRec → GateRec) : (s.modGate g f).readerErrors = s.readerErrors := rfl
@[simp] theorem State.modGate_gates (s : State) (g : Gate) (f : GateRec → GateRec) : (s.modGate g f).gates = s.gates.set g (f (s.gates.get g)) := rfl
@[simp] theorem State.modGate_plat (s : State) (g : Gate) (f : GateRec → GateRec) : (s.modGate g f).plat = s.plat := rfl
@[simp] theorem State.modGate_alloc (s : State) (g : Gate) (f : GateRec → GateRec) : (s.modGate g f).alloc = s.alloc := rfl
@[simp] theorem State.modGate_tables (s : State) (g : Gate) (f : GateRec → GateRec) : (s.modGate g f).tables = s.tables := rfl
@[simp] theorem State.modGate_visits (s : State) (g : Gate) (f : GateRec → GateRec) : (s.modGate g f).visits = s.visits := rfl
@[simp] theorem State.modGate_tickets (s : State) (g : Gate) (f : GateRec → GateRec) : (s.modGate g f).tickets = s.tickets := rfl
@[simp] theorem State.modGate_time (s : State) (g : Gate) (f : GateRec → GateRec) : (s.modGate g f).time = s.time := rfl
@[simp] theorem State.modGate_watch (s : State) (g : Gate) (f : GateRec → GateRec) : (s.modGate g f).watch = s.watch := rfl
@[simp] theorem State.modGate_link (s : State) (g : Gate) (f : GateRec → GateRec) : (s.modGate g f).link = s.link := rfl
@[simp] theorem State.modGate_settings (s : State) (g : Gate) (f : GateRec → GateRec) : (s.modGate g f).settings = s.settings := rfl
@[simp] theorem State.modGate_freeCount (s : State) (g : Gate) (f : GateRec → GateRec) : (s.modGate g f).freeCount = s.freeCount := rfl
@[simp] theorem State.modGate_pending (s : State) (g : Gate) (f : GateRec → GateRec) : (s.modGate g f).pending = s.pending := rfl

/-! ## State.modRec -/

@[simp] theorem State.modRec_part (s : State) (p : Platform) (f : PlatRec → PlatRec) : (s.modRec p f).part = s.part := rfl
@[simp] theorem State.modRec_intakes (s : State) (p : Platform) (f : PlatRec → PlatRec) : (s.modRec p f).intakes = s.intakes := rfl
@[simp] theorem State.modRec_sync (s : State) (p : Platform) (f : PlatRec → PlatRec) : (s.modRec p f).sync = s.sync := rfl
@[simp] theorem State.modRec_chains (s : State) (p : Platform) (f : PlatRec → PlatRec) : (s.modRec p f).chains = s.chains := rfl
@[simp] theorem State.modRec_nextCapture (s : State) (p : Platform) (f : PlatRec → PlatRec) : (s.modRec p f).nextCapture = s.nextCapture := rfl
@[simp] theorem State.modRec_inputs (s : State) (p : Platform) (f : PlatRec → PlatRec) : (s.modRec p f).inputs = s.inputs := rfl
@[simp] theorem State.modRec_drives (s : State) (p : Platform) (f : PlatRec → PlatRec) : (s.modRec p f).drives = s.drives := rfl
@[simp] theorem State.modRec_beacons (s : State) (p : Platform) (f : PlatRec → PlatRec) : (s.modRec p f).beacons = s.beacons := rfl
@[simp] theorem State.modRec_bars (s : State) (p : Platform) (f : PlatRec → PlatRec) : (s.modRec p f).bars = s.bars := rfl
@[simp] theorem State.modRec_recent (s : State) (p : Platform) (f : PlatRec → PlatRec) : (s.modRec p f).recent = s.recent := rfl
@[simp] theorem State.modRec_readerErrors (s : State) (p : Platform) (f : PlatRec → PlatRec) : (s.modRec p f).readerErrors = s.readerErrors := rfl
@[simp] theorem State.modRec_gates (s : State) (p : Platform) (f : PlatRec → PlatRec) : (s.modRec p f).gates = s.gates := rfl
@[simp] theorem State.modRec_plat (s : State) (p : Platform) (f : PlatRec → PlatRec) : (s.modRec p f).plat = { s.plat with recs := s.plat.recs.set p (f (s.plat.recs.get p)) } := rfl
@[simp] theorem State.modRec_alloc (s : State) (p : Platform) (f : PlatRec → PlatRec) : (s.modRec p f).alloc = s.alloc := rfl
@[simp] theorem State.modRec_tables (s : State) (p : Platform) (f : PlatRec → PlatRec) : (s.modRec p f).tables = s.tables := rfl
@[simp] theorem State.modRec_visits (s : State) (p : Platform) (f : PlatRec → PlatRec) : (s.modRec p f).visits = s.visits := rfl
@[simp] theorem State.modRec_tickets (s : State) (p : Platform) (f : PlatRec → PlatRec) : (s.modRec p f).tickets = s.tickets := rfl
@[simp] theorem State.modRec_time (s : State) (p : Platform) (f : PlatRec → PlatRec) : (s.modRec p f).time = s.time := rfl
@[simp] theorem State.modRec_watch (s : State) (p : Platform) (f : PlatRec → PlatRec) : (s.modRec p f).watch = s.watch := rfl
@[simp] theorem State.modRec_link (s : State) (p : Platform) (f : PlatRec → PlatRec) : (s.modRec p f).link = s.link := rfl
@[simp] theorem State.modRec_settings (s : State) (p : Platform) (f : PlatRec → PlatRec) : (s.modRec p f).settings = s.settings := rfl
@[simp] theorem State.modRec_freeCount (s : State) (p : Platform) (f : PlatRec → PlatRec) : (s.modRec p f).freeCount = s.freeCount := rfl
@[simp] theorem State.modRec_pending (s : State) (p : Platform) (f : PlatRec → PlatRec) : (s.modRec p f).pending = s.pending := rfl

/-! ## State.modPrinter -/

@[simp] theorem State.modPrinter_part (s : State) (p : Printer) (f : PrinterRec → PrinterRec) : (s.modPrinter p f).part = s.part := rfl
@[simp] theorem State.modPrinter_intakes (s : State) (p : Printer) (f : PrinterRec → PrinterRec) : (s.modPrinter p f).intakes = s.intakes := rfl
@[simp] theorem State.modPrinter_sync (s : State) (p : Printer) (f : PrinterRec → PrinterRec) : (s.modPrinter p f).sync = s.sync := rfl
@[simp] theorem State.modPrinter_chains (s : State) (p : Printer) (f : PrinterRec → PrinterRec) : (s.modPrinter p f).chains = s.chains := rfl
@[simp] theorem State.modPrinter_nextCapture (s : State) (p : Printer) (f : PrinterRec → PrinterRec) : (s.modPrinter p f).nextCapture = s.nextCapture := rfl
@[simp] theorem State.modPrinter_inputs (s : State) (p : Printer) (f : PrinterRec → PrinterRec) : (s.modPrinter p f).inputs = s.inputs := rfl
@[simp] theorem State.modPrinter_drives (s : State) (p : Printer) (f : PrinterRec → PrinterRec) : (s.modPrinter p f).drives = s.drives := rfl
@[simp] theorem State.modPrinter_beacons (s : State) (p : Printer) (f : PrinterRec → PrinterRec) : (s.modPrinter p f).beacons = s.beacons := rfl
@[simp] theorem State.modPrinter_bars (s : State) (p : Printer) (f : PrinterRec → PrinterRec) : (s.modPrinter p f).bars = s.bars := rfl
@[simp] theorem State.modPrinter_recent (s : State) (p : Printer) (f : PrinterRec → PrinterRec) : (s.modPrinter p f).recent = s.recent := rfl
@[simp] theorem State.modPrinter_readerErrors (s : State) (p : Printer) (f : PrinterRec → PrinterRec) : (s.modPrinter p f).readerErrors = s.readerErrors := rfl
@[simp] theorem State.modPrinter_gates (s : State) (p : Printer) (f : PrinterRec → PrinterRec) : (s.modPrinter p f).gates = s.gates := rfl
@[simp] theorem State.modPrinter_plat (s : State) (p : Printer) (f : PrinterRec → PrinterRec) : (s.modPrinter p f).plat = s.plat := rfl
@[simp] theorem State.modPrinter_alloc (s : State) (p : Printer) (f : PrinterRec → PrinterRec) : (s.modPrinter p f).alloc = s.alloc := rfl
@[simp] theorem State.modPrinter_tables (s : State) (p : Printer) (f : PrinterRec → PrinterRec) : (s.modPrinter p f).tables = s.tables := rfl
@[simp] theorem State.modPrinter_visits (s : State) (p : Printer) (f : PrinterRec → PrinterRec) : (s.modPrinter p f).visits = s.visits := rfl
@[simp] theorem State.modPrinter_tickets (s : State) (p : Printer) (f : PrinterRec → PrinterRec) : (s.modPrinter p f).tickets = { s.tickets with printers := s.tickets.printers.set p (f (s.tickets.printers.get p)) } := rfl
@[simp] theorem State.modPrinter_time (s : State) (p : Printer) (f : PrinterRec → PrinterRec) : (s.modPrinter p f).time = s.time := rfl
@[simp] theorem State.modPrinter_watch (s : State) (p : Printer) (f : PrinterRec → PrinterRec) : (s.modPrinter p f).watch = s.watch := rfl
@[simp] theorem State.modPrinter_link (s : State) (p : Printer) (f : PrinterRec → PrinterRec) : (s.modPrinter p f).link = s.link := rfl
@[simp] theorem State.modPrinter_settings (s : State) (p : Printer) (f : PrinterRec → PrinterRec) : (s.modPrinter p f).settings = s.settings := rfl
@[simp] theorem State.modPrinter_freeCount (s : State) (p : Printer) (f : PrinterRec → PrinterRec) : (s.modPrinter p f).freeCount = s.freeCount := rfl
@[simp] theorem State.modPrinter_pending (s : State) (p : Printer) (f : PrinterRec → PrinterRec) : (s.modPrinter p f).pending = s.pending := rfl

/-! ## setBar -/

@[simp] theorem setBar_part (b : Barrier) (r : Bar) (s : State) : (setBar b r s).part = s.part := rfl
@[simp] theorem setBar_intakes (b : Barrier) (r : Bar) (s : State) : (setBar b r s).intakes = s.intakes := rfl
@[simp] theorem setBar_sync (b : Barrier) (r : Bar) (s : State) : (setBar b r s).sync = s.sync := rfl
@[simp] theorem setBar_chains (b : Barrier) (r : Bar) (s : State) : (setBar b r s).chains = s.chains := rfl
@[simp] theorem setBar_nextCapture (b : Barrier) (r : Bar) (s : State) : (setBar b r s).nextCapture = s.nextCapture := rfl
@[simp] theorem setBar_inputs (b : Barrier) (r : Bar) (s : State) : (setBar b r s).inputs = s.inputs := rfl
@[simp] theorem setBar_drives (b : Barrier) (r : Bar) (s : State) : (setBar b r s).drives = s.drives.set b (driveOf r) := rfl
@[simp] theorem setBar_beacons (b : Barrier) (r : Bar) (s : State) : (setBar b r s).beacons = s.beacons := rfl
@[simp] theorem setBar_bars (b : Barrier) (r : Bar) (s : State) : (setBar b r s).bars = s.bars.set b r := rfl
@[simp] theorem setBar_recent (b : Barrier) (r : Bar) (s : State) : (setBar b r s).recent = s.recent := rfl
@[simp] theorem setBar_readerErrors (b : Barrier) (r : Bar) (s : State) : (setBar b r s).readerErrors = s.readerErrors := rfl
@[simp] theorem setBar_gates (b : Barrier) (r : Bar) (s : State) : (setBar b r s).gates = s.gates := rfl
@[simp] theorem setBar_plat (b : Barrier) (r : Bar) (s : State) : (setBar b r s).plat = s.plat := rfl
@[simp] theorem setBar_alloc (b : Barrier) (r : Bar) (s : State) : (setBar b r s).alloc = s.alloc := rfl
@[simp] theorem setBar_tables (b : Barrier) (r : Bar) (s : State) : (setBar b r s).tables = s.tables := rfl
@[simp] theorem setBar_visits (b : Barrier) (r : Bar) (s : State) : (setBar b r s).visits = s.visits := rfl
@[simp] theorem setBar_tickets (b : Barrier) (r : Bar) (s : State) : (setBar b r s).tickets = s.tickets := rfl
@[simp] theorem setBar_time (b : Barrier) (r : Bar) (s : State) : (setBar b r s).time = s.time := rfl
@[simp] theorem setBar_watch (b : Barrier) (r : Bar) (s : State) : (setBar b r s).watch = s.watch := rfl
@[simp] theorem setBar_link (b : Barrier) (r : Bar) (s : State) : (setBar b r s).link = s.link := rfl
@[simp] theorem setBar_settings (b : Barrier) (r : Bar) (s : State) : (setBar b r s).settings = s.settings := rfl
@[simp] theorem setBar_freeCount (b : Barrier) (r : Bar) (s : State) : (setBar b r s).freeCount = s.freeCount := rfl
@[simp] theorem setBar_pending (b : Barrier) (r : Bar) (s : State) : (setBar b r s).pending = s.pending := rfl

/-! ## setZero -/

@[simp] theorem setZero_part (p : Platform) (z : Int) (s : State) : (setZero p z s).part = s.part := rfl
@[simp] theorem setZero_intakes (p : Platform) (z : Int) (s : State) : (setZero p z s).intakes = s.intakes := rfl
@[simp] theorem setZero_sync (p : Platform) (z : Int) (s : State) : (setZero p z s).sync = s.sync := rfl
@[simp] theorem setZero_nextCapture (p : Platform) (z : Int) (s : State) : (setZero p z s).nextCapture = s.nextCapture := rfl
@[simp] theorem setZero_inputs (p : Platform) (z : Int) (s : State) : (setZero p z s).inputs = s.inputs := rfl
@[simp] theorem setZero_drives (p : Platform) (z : Int) (s : State) : (setZero p z s).drives = s.drives := rfl
@[simp] theorem setZero_beacons (p : Platform) (z : Int) (s : State) : (setZero p z s).beacons = s.beacons := rfl
@[simp] theorem setZero_bars (p : Platform) (z : Int) (s : State) : (setZero p z s).bars = s.bars := rfl
@[simp] theorem setZero_recent (p : Platform) (z : Int) (s : State) : (setZero p z s).recent = s.recent := rfl
@[simp] theorem setZero_readerErrors (p : Platform) (z : Int) (s : State) : (setZero p z s).readerErrors = s.readerErrors := rfl
@[simp] theorem setZero_gates (p : Platform) (z : Int) (s : State) : (setZero p z s).gates = s.gates := rfl
@[simp] theorem setZero_plat (p : Platform) (z : Int) (s : State) : (setZero p z s).plat = s.plat := rfl
@[simp] theorem setZero_alloc (p : Platform) (z : Int) (s : State) : (setZero p z s).alloc = s.alloc := rfl
@[simp] theorem setZero_tables (p : Platform) (z : Int) (s : State) : (setZero p z s).tables = s.tables := rfl
@[simp] theorem setZero_visits (p : Platform) (z : Int) (s : State) : (setZero p z s).visits = s.visits := rfl
@[simp] theorem setZero_tickets (p : Platform) (z : Int) (s : State) : (setZero p z s).tickets = s.tickets := rfl
@[simp] theorem setZero_time (p : Platform) (z : Int) (s : State) : (setZero p z s).time = s.time := rfl
@[simp] theorem setZero_watch (p : Platform) (z : Int) (s : State) : (setZero p z s).watch = s.watch := rfl
@[simp] theorem setZero_link (p : Platform) (z : Int) (s : State) : (setZero p z s).link = s.link := rfl
@[simp] theorem setZero_settings (p : Platform) (z : Int) (s : State) : (setZero p z s).settings = s.settings := rfl
@[simp] theorem setZero_freeCount (p : Platform) (z : Int) (s : State) : (setZero p z s).freeCount = s.freeCount := rfl
@[simp] theorem setZero_pending (p : Platform) (z : Int) (s : State) : (setZero p z s).pending = s.pending := rfl

/-! ## refreshBeacons -/

@[simp] theorem refreshBeacons_part (s : State) : (refreshBeacons s).part = s.part := rfl
@[simp] theorem refreshBeacons_intakes (s : State) : (refreshBeacons s).intakes = s.intakes := rfl
@[simp] theorem refreshBeacons_sync (s : State) : (refreshBeacons s).sync = s.sync := rfl
@[simp] theorem refreshBeacons_chains (s : State) : (refreshBeacons s).chains = s.chains := rfl
@[simp] theorem refreshBeacons_nextCapture (s : State) : (refreshBeacons s).nextCapture = s.nextCapture := rfl
@[simp] theorem refreshBeacons_inputs (s : State) : (refreshBeacons s).inputs = s.inputs := rfl
@[simp] theorem refreshBeacons_drives (s : State) : (refreshBeacons s).drives = s.drives := rfl
@[simp] theorem refreshBeacons_beacons (s : State) : (refreshBeacons s).beacons = { a := beaconOn s .a, b := beaconOn s .b } := rfl
@[simp] theorem refreshBeacons_bars (s : State) : (refreshBeacons s).bars = s.bars := rfl
@[simp] theorem refreshBeacons_recent (s : State) : (refreshBeacons s).recent = s.recent := rfl
@[simp] theorem refreshBeacons_readerErrors (s : State) : (refreshBeacons s).readerErrors = s.readerErrors := rfl
@[simp] theorem refreshBeacons_gates (s : State) : (refreshBeacons s).gates = s.gates := rfl
@[simp] theorem refreshBeacons_plat (s : State) : (refreshBeacons s).plat = s.plat := rfl
@[simp] theorem refreshBeacons_alloc (s : State) : (refreshBeacons s).alloc = s.alloc := rfl
@[simp] theorem refreshBeacons_tables (s : State) : (refreshBeacons s).tables = s.tables := rfl
@[simp] theorem refreshBeacons_visits (s : State) : (refreshBeacons s).visits = s.visits := rfl
@[simp] theorem refreshBeacons_tickets (s : State) : (refreshBeacons s).tickets = s.tickets := rfl
@[simp] theorem refreshBeacons_time (s : State) : (refreshBeacons s).time = s.time := rfl
@[simp] theorem refreshBeacons_watch (s : State) : (refreshBeacons s).watch = s.watch := rfl
@[simp] theorem refreshBeacons_link (s : State) : (refreshBeacons s).link = s.link := rfl
@[simp] theorem refreshBeacons_settings (s : State) : (refreshBeacons s).settings = s.settings := rfl
@[simp] theorem refreshBeacons_freeCount (s : State) : (refreshBeacons s).freeCount = s.freeCount := rfl
@[simp] theorem refreshBeacons_pending (s : State) : (refreshBeacons s).pending = s.pending := rfl

/-! ## joinQueue -/

@[simp] theorem joinQueue_part (id : Nat) (s : State) : (joinQueue id s).part = s.part := rfl
@[simp] theorem joinQueue_intakes (id : Nat) (s : State) : (joinQueue id s).intakes = s.intakes := rfl
@[simp] theorem joinQueue_sync (id : Nat) (s : State) : (joinQueue id s).sync = s.sync := rfl
@[simp] theorem joinQueue_chains (id : Nat) (s : State) : (joinQueue id s).chains = s.chains := rfl
@[simp] theorem joinQueue_nextCapture (id : Nat) (s : State) : (joinQueue id s).nextCapture = s.nextCapture := rfl
@[simp] theorem joinQueue_inputs (id : Nat) (s : State) : (joinQueue id s).inputs = s.inputs := rfl
@[simp] theorem joinQueue_drives (id : Nat) (s : State) : (joinQueue id s).drives = s.drives := rfl
@[simp] theorem joinQueue_beacons (id : Nat) (s : State) : (joinQueue id s).beacons = s.beacons := rfl
@[simp] theorem joinQueue_bars (id : Nat) (s : State) : (joinQueue id s).bars = s.bars := rfl
@[simp] theorem joinQueue_recent (id : Nat) (s : State) : (joinQueue id s).recent = s.recent := rfl
@[simp] theorem joinQueue_readerErrors (id : Nat) (s : State) : (joinQueue id s).readerErrors = s.readerErrors := rfl
@[simp] theorem joinQueue_gates (id : Nat) (s : State) : (joinQueue id s).gates = s.gates := rfl
@[simp] theorem joinQueue_plat (id : Nat) (s : State) : (joinQueue id s).plat = s.plat := rfl
@[simp] theorem joinQueue_alloc (id : Nat) (s : State) : (joinQueue id s).alloc = { s.alloc with queue := s.alloc.queue ++ [{ visit := id, mark := none }] } := rfl
@[simp] theorem joinQueue_tables (id : Nat) (s : State) : (joinQueue id s).tables = s.tables := rfl
@[simp] theorem joinQueue_visits (id : Nat) (s : State) : (joinQueue id s).visits = s.visits := rfl
@[simp] theorem joinQueue_tickets (id : Nat) (s : State) : (joinQueue id s).tickets = s.tickets := rfl
@[simp] theorem joinQueue_time (id : Nat) (s : State) : (joinQueue id s).time = s.time := rfl
@[simp] theorem joinQueue_watch (id : Nat) (s : State) : (joinQueue id s).watch = s.watch := rfl
@[simp] theorem joinQueue_link (id : Nat) (s : State) : (joinQueue id s).link = s.link := rfl
@[simp] theorem joinQueue_settings (id : Nat) (s : State) : (joinQueue id s).settings = s.settings := rfl
@[simp] theorem joinQueue_freeCount (id : Nat) (s : State) : (joinQueue id s).freeCount = s.freeCount := rfl
@[simp] theorem joinQueue_pending (id : Nat) (s : State) : (joinQueue id s).pending = s.pending := rfl

/-! ## leaveQueue -/

@[simp] theorem leaveQueue_part (id : Nat) (s : State) : (leaveQueue id s).part = s.part := rfl
@[simp] theorem leaveQueue_intakes (id : Nat) (s : State) : (leaveQueue id s).intakes = s.intakes := rfl
@[simp] theorem leaveQueue_sync (id : Nat) (s : State) : (leaveQueue id s).sync = s.sync := rfl
@[simp] theorem leaveQueue_chains (id : Nat) (s : State) : (leaveQueue id s).chains = s.chains := rfl
@[simp] theorem leaveQueue_nextCapture (id : Nat) (s : State) : (leaveQueue id s).nextCapture = s.nextCapture := rfl
@[simp] theorem leaveQueue_inputs (id : Nat) (s : State) : (leaveQueue id s).inputs = s.inputs := rfl
@[simp] theorem leaveQueue_drives (id : Nat) (s : State) : (leaveQueue id s).drives = s.drives := rfl
@[simp] theorem leaveQueue_beacons (id : Nat) (s : State) : (leaveQueue id s).beacons = s.beacons := rfl
@[simp] theorem leaveQueue_bars (id : Nat) (s : State) : (leaveQueue id s).bars = s.bars := rfl
@[simp] theorem leaveQueue_recent (id : Nat) (s : State) : (leaveQueue id s).recent = s.recent := rfl
@[simp] theorem leaveQueue_readerErrors (id : Nat) (s : State) : (leaveQueue id s).readerErrors = s.readerErrors := rfl
@[simp] theorem leaveQueue_gates (id : Nat) (s : State) : (leaveQueue id s).gates = s.gates := rfl
@[simp] theorem leaveQueue_plat (id : Nat) (s : State) : (leaveQueue id s).plat = s.plat := rfl
@[simp] theorem leaveQueue_tables (id : Nat) (s : State) : (leaveQueue id s).tables = s.tables := rfl
@[simp] theorem leaveQueue_visits (id : Nat) (s : State) : (leaveQueue id s).visits = s.visits := rfl
@[simp] theorem leaveQueue_tickets (id : Nat) (s : State) : (leaveQueue id s).tickets = s.tickets := rfl
@[simp] theorem leaveQueue_time (id : Nat) (s : State) : (leaveQueue id s).time = s.time := rfl
@[simp] theorem leaveQueue_watch (id : Nat) (s : State) : (leaveQueue id s).watch = s.watch := rfl
@[simp] theorem leaveQueue_link (id : Nat) (s : State) : (leaveQueue id s).link = s.link := rfl
@[simp] theorem leaveQueue_settings (id : Nat) (s : State) : (leaveQueue id s).settings = s.settings := rfl
@[simp] theorem leaveQueue_freeCount (id : Nat) (s : State) : (leaveQueue id s).freeCount = s.freeCount := rfl
@[simp] theorem leaveQueue_pending (id : Nat) (s : State) : (leaveQueue id s).pending = s.pending := rfl

/-! ## modVisit -/

@[simp] theorem modVisit_part (id : Nat) (f : Visit → Visit) (s : State) : (modVisit id f s).part = s.part := rfl
@[simp] theorem modVisit_intakes (id : Nat) (f : Visit → Visit) (s : State) : (modVisit id f s).intakes = s.intakes := rfl
@[simp] theorem modVisit_sync (id : Nat) (f : Visit → Visit) (s : State) : (modVisit id f s).sync = s.sync := rfl
@[simp] theorem modVisit_chains (id : Nat) (f : Visit → Visit) (s : State) : (modVisit id f s).chains = s.chains := rfl
@[simp] theorem modVisit_nextCapture (id : Nat) (f : Visit → Visit) (s : State) : (modVisit id f s).nextCapture = s.nextCapture := rfl
@[simp] theorem modVisit_inputs (id : Nat) (f : Visit → Visit) (s : State) : (modVisit id f s).inputs = s.inputs := rfl
@[simp] theorem modVisit_drives (id : Nat) (f : Visit → Visit) (s : State) : (modVisit id f s).drives = s.drives := rfl
@[simp] theorem modVisit_beacons (id : Nat) (f : Visit → Visit) (s : State) : (modVisit id f s).beacons = s.beacons := rfl
@[simp] theorem modVisit_bars (id : Nat) (f : Visit → Visit) (s : State) : (modVisit id f s).bars = s.bars := rfl
@[simp] theorem modVisit_recent (id : Nat) (f : Visit → Visit) (s : State) : (modVisit id f s).recent = s.recent := rfl
@[simp] theorem modVisit_readerErrors (id : Nat) (f : Visit → Visit) (s : State) : (modVisit id f s).readerErrors = s.readerErrors := rfl
@[simp] theorem modVisit_gates (id : Nat) (f : Visit → Visit) (s : State) : (modVisit id f s).gates = s.gates := rfl
@[simp] theorem modVisit_plat (id : Nat) (f : Visit → Visit) (s : State) : (modVisit id f s).plat = s.plat := rfl
@[simp] theorem modVisit_alloc (id : Nat) (f : Visit → Visit) (s : State) : (modVisit id f s).alloc = s.alloc := rfl
@[simp] theorem modVisit_tables (id : Nat) (f : Visit → Visit) (s : State) : (modVisit id f s).tables = s.tables := rfl
@[simp] theorem modVisit_tickets (id : Nat) (f : Visit → Visit) (s : State) : (modVisit id f s).tickets = s.tickets := rfl
@[simp] theorem modVisit_time (id : Nat) (f : Visit → Visit) (s : State) : (modVisit id f s).time = s.time := rfl
@[simp] theorem modVisit_watch (id : Nat) (f : Visit → Visit) (s : State) : (modVisit id f s).watch = s.watch := rfl
@[simp] theorem modVisit_link (id : Nat) (f : Visit → Visit) (s : State) : (modVisit id f s).link = s.link := rfl
@[simp] theorem modVisit_settings (id : Nat) (f : Visit → Visit) (s : State) : (modVisit id f s).settings = s.settings := rfl
@[simp] theorem modVisit_freeCount (id : Nat) (f : Visit → Visit) (s : State) : (modVisit id f s).freeCount = s.freeCount := rfl
@[simp] theorem modVisit_pending (id : Nat) (f : Visit → Visit) (s : State) : (modVisit id f s).pending = s.pending := rfl

/-! ## removeVisit -/

@[simp] theorem removeVisit_part (id : Nat) (s : State) : (removeVisit id s).part = s.part := rfl
@[simp] theorem removeVisit_intakes (id : Nat) (s : State) : (removeVisit id s).intakes = s.intakes := rfl
@[simp] theorem removeVisit_sync (id : Nat) (s : State) : (removeVisit id s).sync = s.sync := rfl
@[simp] theorem removeVisit_chains (id : Nat) (s : State) : (removeVisit id s).chains = s.chains := rfl
@[simp] theorem removeVisit_nextCapture (id : Nat) (s : State) : (removeVisit id s).nextCapture = s.nextCapture := rfl
@[simp] theorem removeVisit_inputs (id : Nat) (s : State) : (removeVisit id s).inputs = s.inputs := rfl
@[simp] theorem removeVisit_drives (id : Nat) (s : State) : (removeVisit id s).drives = s.drives := rfl
@[simp] theorem removeVisit_beacons (id : Nat) (s : State) : (removeVisit id s).beacons = s.beacons := rfl
@[simp] theorem removeVisit_bars (id : Nat) (s : State) : (removeVisit id s).bars = s.bars := rfl
@[simp] theorem removeVisit_recent (id : Nat) (s : State) : (removeVisit id s).recent = s.recent := rfl
@[simp] theorem removeVisit_readerErrors (id : Nat) (s : State) : (removeVisit id s).readerErrors = s.readerErrors := rfl
@[simp] theorem removeVisit_gates (id : Nat) (s : State) (g : Gate) :
    (removeVisit id s).gates.get g = (s.gates.get g).without id := by
  cases g <;> rfl
@[simp] theorem removeVisit_table (id : Nat) (s : State) :
    (removeVisit id s).visits.table = s.visits.table.filter fun v => v.id != id := rfl
@[simp] theorem removeVisit_nextId (id : Nat) (s : State) : (removeVisit id s).visits.nextId = s.visits.nextId := rfl
@[simp] theorem without_state (id : Nat) (r : GateRec) : (r.without id).state = r.state := rfl
@[simp] theorem without_seen (id : Nat) (r : GateRec) : (r.without id).seen = r.seen := rfl
@[simp] theorem without_pendingTag (id : Nat) (r : GateRec) : (r.without id).pendingTag = r.pendingTag := rfl
@[simp] theorem without_timer (id : Nat) (r : GateRec) : (r.without id).timer = r.timer := rfl
@[simp] theorem removeVisit_plat (id : Nat) (s : State) : (removeVisit id s).plat = s.plat := rfl
@[simp] theorem removeVisit_alloc (id : Nat) (s : State) : (removeVisit id s).alloc = s.alloc := rfl
@[simp] theorem removeVisit_tables (id : Nat) (s : State) : (removeVisit id s).tables = s.tables := rfl
@[simp] theorem removeVisit_tickets (id : Nat) (s : State) : (removeVisit id s).tickets = s.tickets := rfl
@[simp] theorem removeVisit_time (id : Nat) (s : State) : (removeVisit id s).time = s.time := rfl
@[simp] theorem removeVisit_watch (id : Nat) (s : State) : (removeVisit id s).watch = s.watch := rfl
@[simp] theorem removeVisit_link (id : Nat) (s : State) : (removeVisit id s).link = s.link := rfl
@[simp] theorem removeVisit_settings (id : Nat) (s : State) : (removeVisit id s).settings = s.settings := rfl
@[simp] theorem removeVisit_freeCount (id : Nat) (s : State) : (removeVisit id s).freeCount = s.freeCount := rfl
@[simp] theorem removeVisit_pending (id : Nat) (s : State) : (removeVisit id s).pending = s.pending := rfl

/-! ## openCapture -/

@[simp] theorem openCapture_part (p : Platform) (s : State) : (openCapture p s).part = s.part := rfl
@[simp] theorem openCapture_intakes (p : Platform) (s : State) : (openCapture p s).intakes = s.intakes := rfl
@[simp] theorem openCapture_sync (p : Platform) (s : State) : (openCapture p s).sync = s.sync := rfl
@[simp] theorem openCapture_nextCapture (p : Platform) (s : State) : (openCapture p s).nextCapture = s.nextCapture := rfl
@[simp] theorem openCapture_inputs (p : Platform) (s : State) : (openCapture p s).inputs = s.inputs := rfl
@[simp] theorem openCapture_drives (p : Platform) (s : State) : (openCapture p s).drives = s.drives := rfl
@[simp] theorem openCapture_beacons (p : Platform) (s : State) : (openCapture p s).beacons = s.beacons := rfl
@[simp] theorem openCapture_bars (p : Platform) (s : State) : (openCapture p s).bars = s.bars := rfl
@[simp] theorem openCapture_recent (p : Platform) (s : State) : (openCapture p s).recent = s.recent := rfl
@[simp] theorem openCapture_readerErrors (p : Platform) (s : State) : (openCapture p s).readerErrors = s.readerErrors := rfl
@[simp] theorem openCapture_gates (p : Platform) (s : State) : (openCapture p s).gates = s.gates := rfl
@[simp] theorem openCapture_plat (p : Platform) (s : State) : (openCapture p s).plat = s.plat := rfl
@[simp] theorem openCapture_alloc (p : Platform) (s : State) : (openCapture p s).alloc = s.alloc := rfl
@[simp] theorem openCapture_tables (p : Platform) (s : State) : (openCapture p s).tables = s.tables := rfl
@[simp] theorem openCapture_visits (p : Platform) (s : State) : (openCapture p s).visits = s.visits := rfl
@[simp] theorem openCapture_tickets (p : Platform) (s : State) : (openCapture p s).tickets = s.tickets := rfl
@[simp] theorem openCapture_time (p : Platform) (s : State) : (openCapture p s).time = s.time := rfl
@[simp] theorem openCapture_watch (p : Platform) (s : State) : (openCapture p s).watch = s.watch := rfl
@[simp] theorem openCapture_link (p : Platform) (s : State) : (openCapture p s).link = s.link := rfl
@[simp] theorem openCapture_settings (p : Platform) (s : State) : (openCapture p s).settings = s.settings := rfl
@[simp] theorem openCapture_freeCount (p : Platform) (s : State) : (openCapture p s).freeCount = s.freeCount := rfl
@[simp] theorem openCapture_pending (p : Platform) (s : State) : (openCapture p s).pending = s.pending := rfl

/-! ## cancelCapture -/

@[simp] theorem cancelCapture_part (p : Platform) (s : State) : (cancelCapture p s).part = s.part := rfl
@[simp] theorem cancelCapture_intakes (p : Platform) (s : State) : (cancelCapture p s).intakes = s.intakes := rfl
@[simp] theorem cancelCapture_sync (p : Platform) (s : State) : (cancelCapture p s).sync = s.sync := rfl
@[simp] theorem cancelCapture_nextCapture (p : Platform) (s : State) : (cancelCapture p s).nextCapture = s.nextCapture := rfl
@[simp] theorem cancelCapture_inputs (p : Platform) (s : State) : (cancelCapture p s).inputs = s.inputs := rfl
@[simp] theorem cancelCapture_drives (p : Platform) (s : State) : (cancelCapture p s).drives = s.drives := rfl
@[simp] theorem cancelCapture_beacons (p : Platform) (s : State) : (cancelCapture p s).beacons = s.beacons := rfl
@[simp] theorem cancelCapture_bars (p : Platform) (s : State) : (cancelCapture p s).bars = s.bars := rfl
@[simp] theorem cancelCapture_recent (p : Platform) (s : State) : (cancelCapture p s).recent = s.recent := rfl
@[simp] theorem cancelCapture_readerErrors (p : Platform) (s : State) : (cancelCapture p s).readerErrors = s.readerErrors := rfl
@[simp] theorem cancelCapture_gates (p : Platform) (s : State) : (cancelCapture p s).gates = s.gates := rfl
@[simp] theorem cancelCapture_plat (p : Platform) (s : State) : (cancelCapture p s).plat = s.plat := rfl
@[simp] theorem cancelCapture_alloc (p : Platform) (s : State) : (cancelCapture p s).alloc = s.alloc := rfl
@[simp] theorem cancelCapture_tables (p : Platform) (s : State) : (cancelCapture p s).tables = s.tables := rfl
@[simp] theorem cancelCapture_visits (p : Platform) (s : State) : (cancelCapture p s).visits = s.visits := rfl
@[simp] theorem cancelCapture_tickets (p : Platform) (s : State) : (cancelCapture p s).tickets = s.tickets := rfl
@[simp] theorem cancelCapture_time (p : Platform) (s : State) : (cancelCapture p s).time = s.time := rfl
@[simp] theorem cancelCapture_watch (p : Platform) (s : State) : (cancelCapture p s).watch = s.watch := rfl
@[simp] theorem cancelCapture_link (p : Platform) (s : State) : (cancelCapture p s).link = s.link := rfl
@[simp] theorem cancelCapture_settings (p : Platform) (s : State) : (cancelCapture p s).settings = s.settings := rfl
@[simp] theorem cancelCapture_freeCount (p : Platform) (s : State) : (cancelCapture p s).freeCount = s.freeCount := rfl
@[simp] theorem cancelCapture_pending (p : Platform) (s : State) : (cancelCapture p s).pending = s.pending := rfl

/-! ## restartFilter -/

@[simp] theorem restartFilter_part (p : Platform) (s : State) : (restartFilter p s).part = s.part := rfl
@[simp] theorem restartFilter_intakes (p : Platform) (s : State) : (restartFilter p s).intakes = s.intakes := rfl
@[simp] theorem restartFilter_sync (p : Platform) (s : State) : (restartFilter p s).sync = s.sync := rfl
@[simp] theorem restartFilter_nextCapture (p : Platform) (s : State) : (restartFilter p s).nextCapture = s.nextCapture := rfl
@[simp] theorem restartFilter_inputs (p : Platform) (s : State) : (restartFilter p s).inputs = s.inputs := rfl
@[simp] theorem restartFilter_drives (p : Platform) (s : State) : (restartFilter p s).drives = s.drives := rfl
@[simp] theorem restartFilter_beacons (p : Platform) (s : State) : (restartFilter p s).beacons = s.beacons := rfl
@[simp] theorem restartFilter_bars (p : Platform) (s : State) : (restartFilter p s).bars = s.bars := rfl
@[simp] theorem restartFilter_recent (p : Platform) (s : State) : (restartFilter p s).recent = s.recent := rfl
@[simp] theorem restartFilter_readerErrors (p : Platform) (s : State) : (restartFilter p s).readerErrors = s.readerErrors := rfl
@[simp] theorem restartFilter_gates (p : Platform) (s : State) : (restartFilter p s).gates = s.gates := rfl
@[simp] theorem restartFilter_plat (p : Platform) (s : State) : (restartFilter p s).plat = s.plat := rfl
@[simp] theorem restartFilter_alloc (p : Platform) (s : State) : (restartFilter p s).alloc = s.alloc := rfl
@[simp] theorem restartFilter_tables (p : Platform) (s : State) : (restartFilter p s).tables = s.tables := rfl
@[simp] theorem restartFilter_visits (p : Platform) (s : State) : (restartFilter p s).visits = s.visits := rfl
@[simp] theorem restartFilter_tickets (p : Platform) (s : State) : (restartFilter p s).tickets = s.tickets := rfl
@[simp] theorem restartFilter_time (p : Platform) (s : State) : (restartFilter p s).time = s.time := rfl
@[simp] theorem restartFilter_watch (p : Platform) (s : State) : (restartFilter p s).watch = s.watch := rfl
@[simp] theorem restartFilter_link (p : Platform) (s : State) : (restartFilter p s).link = s.link := rfl
@[simp] theorem restartFilter_settings (p : Platform) (s : State) : (restartFilter p s).settings = s.settings := rfl
@[simp] theorem restartFilter_freeCount (p : Platform) (s : State) : (restartFilter p s).freeCount = s.freeCount := rfl
@[simp] theorem restartFilter_pending (p : Platform) (s : State) : (restartFilter p s).pending = s.pending := rfl

/-! ## blankResult -/

@[simp] theorem blankResult_part (p : Platform) (s : State) : (blankResult p s).part = s.part := rfl
@[simp] theorem blankResult_intakes (p : Platform) (s : State) : (blankResult p s).intakes = s.intakes := rfl
@[simp] theorem blankResult_sync (p : Platform) (s : State) : (blankResult p s).sync = s.sync := rfl
@[simp] theorem blankResult_nextCapture (p : Platform) (s : State) : (blankResult p s).nextCapture = s.nextCapture := rfl
@[simp] theorem blankResult_inputs (p : Platform) (s : State) : (blankResult p s).inputs = s.inputs := rfl
@[simp] theorem blankResult_drives (p : Platform) (s : State) : (blankResult p s).drives = s.drives := rfl
@[simp] theorem blankResult_beacons (p : Platform) (s : State) : (blankResult p s).beacons = s.beacons := rfl
@[simp] theorem blankResult_bars (p : Platform) (s : State) : (blankResult p s).bars = s.bars := rfl
@[simp] theorem blankResult_recent (p : Platform) (s : State) : (blankResult p s).recent = s.recent := rfl
@[simp] theorem blankResult_readerErrors (p : Platform) (s : State) : (blankResult p s).readerErrors = s.readerErrors := rfl
@[simp] theorem blankResult_gates (p : Platform) (s : State) : (blankResult p s).gates = s.gates := rfl
@[simp] theorem blankResult_plat (p : Platform) (s : State) : (blankResult p s).plat = s.plat := rfl
@[simp] theorem blankResult_alloc (p : Platform) (s : State) : (blankResult p s).alloc = s.alloc := rfl
@[simp] theorem blankResult_tables (p : Platform) (s : State) : (blankResult p s).tables = s.tables := rfl
@[simp] theorem blankResult_visits (p : Platform) (s : State) : (blankResult p s).visits = s.visits := rfl
@[simp] theorem blankResult_tickets (p : Platform) (s : State) : (blankResult p s).tickets = s.tickets := rfl
@[simp] theorem blankResult_time (p : Platform) (s : State) : (blankResult p s).time = s.time := rfl
@[simp] theorem blankResult_watch (p : Platform) (s : State) : (blankResult p s).watch = s.watch := rfl
@[simp] theorem blankResult_link (p : Platform) (s : State) : (blankResult p s).link = s.link := rfl
@[simp] theorem blankResult_settings (p : Platform) (s : State) : (blankResult p s).settings = s.settings := rfl
@[simp] theorem blankResult_freeCount (p : Platform) (s : State) : (blankResult p s).freeCount = s.freeCount := rfl
@[simp] theorem blankResult_pending (p : Platform) (s : State) : (blankResult p s).pending = s.pending := rfl

/-! ## refillStart -/

@[simp] theorem refillStart_part (s : State) : (refillStart s).part = s.part := rfl
@[simp] theorem refillStart_intakes (s : State) : (refillStart s).intakes = { a := s.intakes.a.startRefill, b := s.intakes.b.startRefill } := rfl
@[simp] theorem refillStart_sync (s : State) : (refillStart s).sync = true := rfl
@[simp] theorem refillStart_nextCapture (s : State) : (refillStart s).nextCapture = s.nextCapture := rfl
@[simp] theorem refillStart_inputs (s : State) : (refillStart s).inputs = s.inputs := rfl
@[simp] theorem refillStart_drives (s : State) : (refillStart s).drives = s.drives := rfl
@[simp] theorem refillStart_beacons (s : State) : (refillStart s).beacons = s.beacons := rfl
@[simp] theorem refillStart_bars (s : State) : (refillStart s).bars = s.bars := rfl
@[simp] theorem refillStart_recent (s : State) : (refillStart s).recent = s.recent := rfl
@[simp] theorem refillStart_readerErrors (s : State) : (refillStart s).readerErrors = s.readerErrors := rfl
@[simp] theorem refillStart_gates (s : State) : (refillStart s).gates = s.gates := rfl
@[simp] theorem refillStart_plat (s : State) : (refillStart s).plat = s.plat := rfl
@[simp] theorem refillStart_alloc (s : State) : (refillStart s).alloc = s.alloc := rfl
@[simp] theorem refillStart_tables (s : State) : (refillStart s).tables = s.tables := rfl
@[simp] theorem refillStart_visits (s : State) : (refillStart s).visits = s.visits := rfl
@[simp] theorem refillStart_tickets (s : State) : (refillStart s).tickets = s.tickets := rfl
@[simp] theorem refillStart_time (s : State) : (refillStart s).time = s.time := rfl
@[simp] theorem refillStart_watch (s : State) : (refillStart s).watch = s.watch := rfl
@[simp] theorem refillStart_link (s : State) : (refillStart s).link = s.link := rfl
@[simp] theorem refillStart_settings (s : State) : (refillStart s).settings = s.settings := rfl
@[simp] theorem refillStart_freeCount (s : State) : (refillStart s).freeCount = s.freeCount := rfl
@[simp] theorem refillStart_pending (s : State) : (refillStart s).pending = s.pending := rfl

/-! ## closeGate -/

@[simp] theorem closeGate_part (g : Gate) (s : State) : (closeGate g s).part = s.part := rfl
@[simp] theorem closeGate_intakes (g : Gate) (s : State) : (closeGate g s).intakes = s.intakes := rfl
@[simp] theorem closeGate_sync (g : Gate) (s : State) : (closeGate g s).sync = s.sync := rfl
@[simp] theorem closeGate_chains (g : Gate) (s : State) : (closeGate g s).chains = s.chains := rfl
@[simp] theorem closeGate_nextCapture (g : Gate) (s : State) : (closeGate g s).nextCapture = s.nextCapture := rfl
@[simp] theorem closeGate_inputs (g : Gate) (s : State) : (closeGate g s).inputs = s.inputs := rfl
@[simp] theorem closeGate_drives (g : Gate) (s : State) : (closeGate g s).drives = s.drives := rfl
@[simp] theorem closeGate_beacons (g : Gate) (s : State) : (closeGate g s).beacons = s.beacons := rfl
@[simp] theorem closeGate_bars (g : Gate) (s : State) : (closeGate g s).bars = s.bars := rfl
@[simp] theorem closeGate_recent (g : Gate) (s : State) : (closeGate g s).recent = s.recent := rfl
@[simp] theorem closeGate_readerErrors (g : Gate) (s : State) : (closeGate g s).readerErrors = s.readerErrors := rfl
@[simp] theorem closeGate_gates (g : Gate) (s : State) : (closeGate g s).gates = s.gates.set g GateRec.reset := rfl
@[simp] theorem closeGate_plat (g : Gate) (s : State) : (closeGate g s).plat = s.plat := rfl
@[simp] theorem closeGate_alloc (g : Gate) (s : State) : (closeGate g s).alloc = s.alloc := rfl
@[simp] theorem closeGate_tables (g : Gate) (s : State) : (closeGate g s).tables = s.tables := rfl
@[simp] theorem closeGate_visits (g : Gate) (s : State) : (closeGate g s).visits = s.visits := rfl
@[simp] theorem closeGate_tickets (g : Gate) (s : State) : (closeGate g s).tickets = s.tickets := rfl
@[simp] theorem closeGate_time (g : Gate) (s : State) : (closeGate g s).time = s.time := rfl
@[simp] theorem closeGate_watch (g : Gate) (s : State) : (closeGate g s).watch = s.watch := rfl
@[simp] theorem closeGate_link (g : Gate) (s : State) : (closeGate g s).link = s.link := rfl
@[simp] theorem closeGate_settings (g : Gate) (s : State) : (closeGate g s).settings = s.settings := rfl
@[simp] theorem closeGate_freeCount (g : Gate) (s : State) : (closeGate g s).freeCount = s.freeCount := rfl
@[simp] theorem closeGate_pending (g : Gate) (s : State) : (closeGate g s).pending = s.pending := rfl

/-! ## endWrite -/

@[simp] theorem endWrite_part (s : State) : (endWrite s).part = s.part := rfl
@[simp] theorem endWrite_intakes (s : State) : (endWrite s).intakes = s.intakes := rfl
@[simp] theorem endWrite_sync (s : State) : (endWrite s).sync = s.sync := rfl
@[simp] theorem endWrite_chains (s : State) : (endWrite s).chains = s.chains := rfl
@[simp] theorem endWrite_nextCapture (s : State) : (endWrite s).nextCapture = s.nextCapture := rfl
@[simp] theorem endWrite_inputs (s : State) : (endWrite s).inputs = s.inputs := rfl
@[simp] theorem endWrite_drives (s : State) : (endWrite s).drives = s.drives := rfl
@[simp] theorem endWrite_beacons (s : State) : (endWrite s).beacons = s.beacons := rfl
@[simp] theorem endWrite_bars (s : State) : (endWrite s).bars = s.bars := rfl
@[simp] theorem endWrite_recent (s : State) : (endWrite s).recent = s.recent := rfl
@[simp] theorem endWrite_readerErrors (s : State) : (endWrite s).readerErrors = s.readerErrors := rfl
@[simp] theorem endWrite_gates (s : State) : (endWrite s).gates = s.gates := rfl
@[simp] theorem endWrite_plat (s : State) : (endWrite s).plat = s.plat := rfl
@[simp] theorem endWrite_alloc (s : State) : (endWrite s).alloc = s.alloc := rfl
@[simp] theorem endWrite_tables (s : State) : (endWrite s).tables = s.tables := rfl
@[simp] theorem endWrite_visits (s : State) : (endWrite s).visits = s.visits := rfl
@[simp] theorem endWrite_tickets (s : State) : (endWrite s).tickets = s.tickets := rfl
@[simp] theorem endWrite_time (s : State) : (endWrite s).time = s.time := rfl
@[simp] theorem endWrite_watch (s : State) : (endWrite s).watch = s.watch := rfl
@[simp] theorem endWrite_link (s : State) : (endWrite s).link = s.link := rfl
@[simp] theorem endWrite_settings (s : State) : (endWrite s).settings = { s.settings with write := none } := rfl
@[simp] theorem endWrite_freeCount (s : State) : (endWrite s).freeCount = s.freeCount := rfl
@[simp] theorem endWrite_pending (s : State) : (endWrite s).pending = s.pending := rfl

/-! ## startWrite -/

@[simp] theorem startWrite_part (v : SectionVals) (s : State) : (startWrite v s).part = s.part := rfl
@[simp] theorem startWrite_intakes (v : SectionVals) (s : State) : (startWrite v s).intakes = s.intakes := rfl
@[simp] theorem startWrite_sync (v : SectionVals) (s : State) : (startWrite v s).sync = s.sync := rfl
@[simp] theorem startWrite_chains (v : SectionVals) (s : State) : (startWrite v s).chains = s.chains := rfl
@[simp] theorem startWrite_nextCapture (v : SectionVals) (s : State) : (startWrite v s).nextCapture = s.nextCapture := rfl
@[simp] theorem startWrite_inputs (v : SectionVals) (s : State) : (startWrite v s).inputs = s.inputs := rfl
@[simp] theorem startWrite_drives (v : SectionVals) (s : State) : (startWrite v s).drives = s.drives := rfl
@[simp] theorem startWrite_beacons (v : SectionVals) (s : State) : (startWrite v s).beacons = s.beacons := rfl
@[simp] theorem startWrite_bars (v : SectionVals) (s : State) : (startWrite v s).bars = s.bars := rfl
@[simp] theorem startWrite_recent (v : SectionVals) (s : State) : (startWrite v s).recent = s.recent := rfl
@[simp] theorem startWrite_readerErrors (v : SectionVals) (s : State) : (startWrite v s).readerErrors = s.readerErrors := rfl
@[simp] theorem startWrite_gates (v : SectionVals) (s : State) : (startWrite v s).gates = s.gates := rfl
@[simp] theorem startWrite_plat (v : SectionVals) (s : State) : (startWrite v s).plat = s.plat := rfl
@[simp] theorem startWrite_alloc (v : SectionVals) (s : State) : (startWrite v s).alloc = s.alloc := rfl
@[simp] theorem startWrite_tables (v : SectionVals) (s : State) : (startWrite v s).tables = s.tables := rfl
@[simp] theorem startWrite_visits (v : SectionVals) (s : State) : (startWrite v s).visits = s.visits := rfl
@[simp] theorem startWrite_tickets (v : SectionVals) (s : State) : (startWrite v s).tickets = s.tickets := rfl
@[simp] theorem startWrite_time (v : SectionVals) (s : State) : (startWrite v s).time = s.time := rfl
@[simp] theorem startWrite_watch (v : SectionVals) (s : State) : (startWrite v s).watch = s.watch := rfl
@[simp] theorem startWrite_link (v : SectionVals) (s : State) : (startWrite v s).link = s.link := rfl
@[simp] theorem startWrite_freeCount (v : SectionVals) (s : State) : (startWrite v s).freeCount = s.freeCount := rfl
@[simp] theorem startWrite_pending (v : SectionVals) (s : State) : (startWrite v s).pending = s.pending := rfl

/-! ## clearReader -/

@[simp] theorem clearReader_part (r : Reader) (s : State) : (clearReader r s).part = s.part := rfl
@[simp] theorem clearReader_intakes (r : Reader) (s : State) : (clearReader r s).intakes = s.intakes := rfl
@[simp] theorem clearReader_sync (r : Reader) (s : State) : (clearReader r s).sync = s.sync := rfl
@[simp] theorem clearReader_chains (r : Reader) (s : State) : (clearReader r s).chains = s.chains := rfl
@[simp] theorem clearReader_nextCapture (r : Reader) (s : State) : (clearReader r s).nextCapture = s.nextCapture := rfl
@[simp] theorem clearReader_inputs (r : Reader) (s : State) : (clearReader r s).inputs = s.inputs := rfl
@[simp] theorem clearReader_drives (r : Reader) (s : State) : (clearReader r s).drives = s.drives := rfl
@[simp] theorem clearReader_beacons (r : Reader) (s : State) : (clearReader r s).beacons = s.beacons := rfl
@[simp] theorem clearReader_bars (r : Reader) (s : State) : (clearReader r s).bars = s.bars := rfl
@[simp] theorem clearReader_recent (r : Reader) (s : State) : (clearReader r s).recent = s.recent.set r RecentRead.reset := rfl
@[simp] theorem clearReader_readerErrors (r : Reader) (s : State) : (clearReader r s).readerErrors = s.readerErrors := rfl
@[simp] theorem clearReader_gates (r : Reader) (s : State) : (clearReader r s).gates = s.gates := rfl
@[simp] theorem clearReader_plat (r : Reader) (s : State) : (clearReader r s).plat = s.plat := rfl
@[simp] theorem clearReader_alloc (r : Reader) (s : State) : (clearReader r s).alloc = s.alloc := rfl
@[simp] theorem clearReader_tables (r : Reader) (s : State) : (clearReader r s).tables = s.tables := rfl
@[simp] theorem clearReader_visits (r : Reader) (s : State) : (clearReader r s).visits = s.visits := rfl
@[simp] theorem clearReader_tickets (r : Reader) (s : State) : (clearReader r s).tickets = s.tickets := rfl
@[simp] theorem clearReader_time (r : Reader) (s : State) : (clearReader r s).time = s.time := rfl
@[simp] theorem clearReader_watch (r : Reader) (s : State) : (clearReader r s).watch = s.watch := rfl
@[simp] theorem clearReader_link (r : Reader) (s : State) : (clearReader r s).link = s.link := rfl
@[simp] theorem clearReader_settings (r : Reader) (s : State) : (clearReader r s).settings = s.settings := rfl
@[simp] theorem clearReader_freeCount (r : Reader) (s : State) : (clearReader r s).freeCount = s.freeCount := rfl
@[simp] theorem clearReader_pending (r : Reader) (s : State) : (clearReader r s).pending = s.pending := rfl

/-! ## rolloverAccounts -/

@[simp] theorem rolloverAccounts_part (s : State) : (rolloverAccounts s).part = s.part := rfl
@[simp] theorem rolloverAccounts_intakes (s : State) : (rolloverAccounts s).intakes = s.intakes := rfl
@[simp] theorem rolloverAccounts_sync (s : State) : (rolloverAccounts s).sync = s.sync := rfl
@[simp] theorem rolloverAccounts_chains (s : State) : (rolloverAccounts s).chains = s.chains := rfl
@[simp] theorem rolloverAccounts_nextCapture (s : State) : (rolloverAccounts s).nextCapture = s.nextCapture := rfl
@[simp] theorem rolloverAccounts_inputs (s : State) : (rolloverAccounts s).inputs = s.inputs := rfl
@[simp] theorem rolloverAccounts_drives (s : State) : (rolloverAccounts s).drives = s.drives := rfl
@[simp] theorem rolloverAccounts_beacons (s : State) : (rolloverAccounts s).beacons = s.beacons := rfl
@[simp] theorem rolloverAccounts_bars (s : State) : (rolloverAccounts s).bars = s.bars := rfl
@[simp] theorem rolloverAccounts_recent (s : State) : (rolloverAccounts s).recent = s.recent := rfl
@[simp] theorem rolloverAccounts_readerErrors (s : State) : (rolloverAccounts s).readerErrors = s.readerErrors := rfl
@[simp] theorem rolloverAccounts_gates (s : State) : (rolloverAccounts s).gates = s.gates := rfl
@[simp] theorem rolloverAccounts_plat (s : State) : (rolloverAccounts s).plat = s.plat := rfl
@[simp] theorem rolloverAccounts_alloc (s : State) : (rolloverAccounts s).alloc = s.alloc := rfl
@[simp] theorem rolloverAccounts_visits (s : State) : (rolloverAccounts s).visits = s.visits := rfl
@[simp] theorem rolloverAccounts_tickets (s : State) : (rolloverAccounts s).tickets = s.tickets := rfl
@[simp] theorem rolloverAccounts_time (s : State) : (rolloverAccounts s).time = s.time := rfl
@[simp] theorem rolloverAccounts_watch (s : State) : (rolloverAccounts s).watch = s.watch := rfl
@[simp] theorem rolloverAccounts_link (s : State) : (rolloverAccounts s).link = s.link := rfl
@[simp] theorem rolloverAccounts_settings (s : State) : (rolloverAccounts s).settings = s.settings := rfl
@[simp] theorem rolloverAccounts_freeCount (s : State) : (rolloverAccounts s).freeCount = s.freeCount := rfl
@[simp] theorem rolloverAccounts_pending (s : State) : (rolloverAccounts s).pending = s.pending := rfl

/-! ## takeTicket -/

@[simp] theorem takeTicket_part (id : Nat) (s : State) : (takeTicket id s).part = s.part := rfl
@[simp] theorem takeTicket_intakes (id : Nat) (s : State) : (takeTicket id s).intakes = s.intakes := rfl
@[simp] theorem takeTicket_sync (id : Nat) (s : State) : (takeTicket id s).sync = s.sync := rfl
@[simp] theorem takeTicket_chains (id : Nat) (s : State) : (takeTicket id s).chains = s.chains := rfl
@[simp] theorem takeTicket_nextCapture (id : Nat) (s : State) : (takeTicket id s).nextCapture = s.nextCapture := rfl
@[simp] theorem takeTicket_inputs (id : Nat) (s : State) : (takeTicket id s).inputs = s.inputs := rfl
@[simp] theorem takeTicket_drives (id : Nat) (s : State) : (takeTicket id s).drives = s.drives := rfl
@[simp] theorem takeTicket_beacons (id : Nat) (s : State) : (takeTicket id s).beacons = s.beacons := rfl
@[simp] theorem takeTicket_bars (id : Nat) (s : State) : (takeTicket id s).bars = s.bars := rfl
@[simp] theorem takeTicket_recent (id : Nat) (s : State) : (takeTicket id s).recent = s.recent := rfl
@[simp] theorem takeTicket_readerErrors (id : Nat) (s : State) : (takeTicket id s).readerErrors = s.readerErrors := rfl
@[simp] theorem takeTicket_gates (id : Nat) (s : State) : (takeTicket id s).gates = s.gates := rfl
@[simp] theorem takeTicket_plat (id : Nat) (s : State) : (takeTicket id s).plat = s.plat := rfl
@[simp] theorem takeTicket_alloc (id : Nat) (s : State) : (takeTicket id s).alloc = s.alloc := rfl
@[simp] theorem takeTicket_tables (id : Nat) (s : State) : (takeTicket id s).tables = s.tables := rfl
@[simp] theorem takeTicket_time (id : Nat) (s : State) : (takeTicket id s).time = s.time := rfl
@[simp] theorem takeTicket_watch (id : Nat) (s : State) : (takeTicket id s).watch = s.watch := rfl
@[simp] theorem takeTicket_link (id : Nat) (s : State) : (takeTicket id s).link = s.link := rfl
@[simp] theorem takeTicket_settings (id : Nat) (s : State) : (takeTicket id s).settings = s.settings := rfl
@[simp] theorem takeTicket_freeCount (id : Nat) (s : State) : (takeTicket id s).freeCount = s.freeCount := rfl
@[simp] theorem takeTicket_pending (id : Nat) (s : State) : (takeTicket id s).pending = s.pending := rfl

/-! ## createVisit -/

@[simp] theorem createVisit_part (a : Admittee) (s : State) : (createVisit a s).part = s.part := rfl
@[simp] theorem createVisit_intakes (a : Admittee) (s : State) : (createVisit a s).intakes = s.intakes := rfl
@[simp] theorem createVisit_sync (a : Admittee) (s : State) : (createVisit a s).sync = s.sync := rfl
@[simp] theorem createVisit_chains (a : Admittee) (s : State) : (createVisit a s).chains = s.chains := rfl
@[simp] theorem createVisit_nextCapture (a : Admittee) (s : State) : (createVisit a s).nextCapture = s.nextCapture := rfl
@[simp] theorem createVisit_inputs (a : Admittee) (s : State) : (createVisit a s).inputs = s.inputs := rfl
@[simp] theorem createVisit_drives (a : Admittee) (s : State) : (createVisit a s).drives = s.drives := rfl
@[simp] theorem createVisit_beacons (a : Admittee) (s : State) : (createVisit a s).beacons = s.beacons := rfl
@[simp] theorem createVisit_bars (a : Admittee) (s : State) : (createVisit a s).bars = s.bars := rfl
@[simp] theorem createVisit_recent (a : Admittee) (s : State) : (createVisit a s).recent = s.recent := rfl
@[simp] theorem createVisit_readerErrors (a : Admittee) (s : State) : (createVisit a s).readerErrors = s.readerErrors := rfl
@[simp] theorem createVisit_gates (a : Admittee) (s : State) : (createVisit a s).gates = s.gates := rfl
@[simp] theorem createVisit_plat (a : Admittee) (s : State) : (createVisit a s).plat = s.plat := rfl
@[simp] theorem createVisit_alloc (a : Admittee) (s : State) : (createVisit a s).alloc = s.alloc := rfl
@[simp] theorem createVisit_tables (a : Admittee) (s : State) : (createVisit a s).tables = s.tables := rfl
@[simp] theorem createVisit_tickets (a : Admittee) (s : State) : (createVisit a s).tickets = s.tickets := rfl
@[simp] theorem createVisit_time (a : Admittee) (s : State) : (createVisit a s).time = s.time := rfl
@[simp] theorem createVisit_watch (a : Admittee) (s : State) : (createVisit a s).watch = s.watch := rfl
@[simp] theorem createVisit_link (a : Admittee) (s : State) : (createVisit a s).link = s.link := rfl
@[simp] theorem createVisit_settings (a : Admittee) (s : State) : (createVisit a s).settings = s.settings := rfl
@[simp] theorem createVisit_freeCount (a : Admittee) (s : State) : (createVisit a s).freeCount = s.freeCount := rfl
@[simp] theorem createVisit_pending (a : Admittee) (s : State) : (createVisit a s).pending = s.pending := rfl

/-! ## putVehicle -/

@[simp] theorem putVehicle_part (slot : Nat) (v : Vehicle) (s : State) : (putVehicle slot v s).part = s.part := rfl
@[simp] theorem putVehicle_intakes (slot : Nat) (v : Vehicle) (s : State) : (putVehicle slot v s).intakes = s.intakes := rfl
@[simp] theorem putVehicle_sync (slot : Nat) (v : Vehicle) (s : State) : (putVehicle slot v s).sync = s.sync := rfl
@[simp] theorem putVehicle_chains (slot : Nat) (v : Vehicle) (s : State) : (putVehicle slot v s).chains = s.chains := rfl
@[simp] theorem putVehicle_nextCapture (slot : Nat) (v : Vehicle) (s : State) : (putVehicle slot v s).nextCapture = s.nextCapture := rfl
@[simp] theorem putVehicle_inputs (slot : Nat) (v : Vehicle) (s : State) : (putVehicle slot v s).inputs = s.inputs := rfl
@[simp] theorem putVehicle_drives (slot : Nat) (v : Vehicle) (s : State) : (putVehicle slot v s).drives = s.drives := rfl
@[simp] theorem putVehicle_beacons (slot : Nat) (v : Vehicle) (s : State) : (putVehicle slot v s).beacons = s.beacons := rfl
@[simp] theorem putVehicle_bars (slot : Nat) (v : Vehicle) (s : State) : (putVehicle slot v s).bars = s.bars := rfl
@[simp] theorem putVehicle_recent (slot : Nat) (v : Vehicle) (s : State) : (putVehicle slot v s).recent = s.recent := rfl
@[simp] theorem putVehicle_readerErrors (slot : Nat) (v : Vehicle) (s : State) : (putVehicle slot v s).readerErrors = s.readerErrors := rfl
@[simp] theorem putVehicle_gates (slot : Nat) (v : Vehicle) (s : State) : (putVehicle slot v s).gates = s.gates := rfl
@[simp] theorem putVehicle_plat (slot : Nat) (v : Vehicle) (s : State) : (putVehicle slot v s).plat = s.plat := rfl
@[simp] theorem putVehicle_alloc (slot : Nat) (v : Vehicle) (s : State) : (putVehicle slot v s).alloc = s.alloc := rfl
@[simp] theorem putVehicle_visits (slot : Nat) (v : Vehicle) (s : State) : (putVehicle slot v s).visits = s.visits := rfl
@[simp] theorem putVehicle_tickets (slot : Nat) (v : Vehicle) (s : State) : (putVehicle slot v s).tickets = s.tickets := rfl
@[simp] theorem putVehicle_time (slot : Nat) (v : Vehicle) (s : State) : (putVehicle slot v s).time = s.time := rfl
@[simp] theorem putVehicle_watch (slot : Nat) (v : Vehicle) (s : State) : (putVehicle slot v s).watch = s.watch := rfl
@[simp] theorem putVehicle_link (slot : Nat) (v : Vehicle) (s : State) : (putVehicle slot v s).link = s.link := rfl
@[simp] theorem putVehicle_settings (slot : Nat) (v : Vehicle) (s : State) : (putVehicle slot v s).settings = s.settings := rfl
@[simp] theorem putVehicle_freeCount (slot : Nat) (v : Vehicle) (s : State) : (putVehicle slot v s).freeCount = s.freeCount := rfl
@[simp] theorem putVehicle_pending (slot : Nat) (v : Vehicle) (s : State) : (putVehicle slot v s).pending = s.pending := rfl

/-! ## putAccount -/

@[simp] theorem putAccount_part (n : Nat) (a : Account) (s : State) : (putAccount n a s).part = s.part := rfl
@[simp] theorem putAccount_intakes (n : Nat) (a : Account) (s : State) : (putAccount n a s).intakes = s.intakes := rfl
@[simp] theorem putAccount_sync (n : Nat) (a : Account) (s : State) : (putAccount n a s).sync = s.sync := rfl
@[simp] theorem putAccount_chains (n : Nat) (a : Account) (s : State) : (putAccount n a s).chains = s.chains := rfl
@[simp] theorem putAccount_nextCapture (n : Nat) (a : Account) (s : State) : (putAccount n a s).nextCapture = s.nextCapture := rfl
@[simp] theorem putAccount_inputs (n : Nat) (a : Account) (s : State) : (putAccount n a s).inputs = s.inputs := rfl
@[simp] theorem putAccount_drives (n : Nat) (a : Account) (s : State) : (putAccount n a s).drives = s.drives := rfl
@[simp] theorem putAccount_beacons (n : Nat) (a : Account) (s : State) : (putAccount n a s).beacons = s.beacons := rfl
@[simp] theorem putAccount_bars (n : Nat) (a : Account) (s : State) : (putAccount n a s).bars = s.bars := rfl
@[simp] theorem putAccount_recent (n : Nat) (a : Account) (s : State) : (putAccount n a s).recent = s.recent := rfl
@[simp] theorem putAccount_readerErrors (n : Nat) (a : Account) (s : State) : (putAccount n a s).readerErrors = s.readerErrors := rfl
@[simp] theorem putAccount_gates (n : Nat) (a : Account) (s : State) : (putAccount n a s).gates = s.gates := rfl
@[simp] theorem putAccount_plat (n : Nat) (a : Account) (s : State) : (putAccount n a s).plat = s.plat := rfl
@[simp] theorem putAccount_alloc (n : Nat) (a : Account) (s : State) : (putAccount n a s).alloc = s.alloc := rfl
@[simp] theorem putAccount_visits (n : Nat) (a : Account) (s : State) : (putAccount n a s).visits = s.visits := rfl
@[simp] theorem putAccount_tickets (n : Nat) (a : Account) (s : State) : (putAccount n a s).tickets = s.tickets := rfl
@[simp] theorem putAccount_time (n : Nat) (a : Account) (s : State) : (putAccount n a s).time = s.time := rfl
@[simp] theorem putAccount_watch (n : Nat) (a : Account) (s : State) : (putAccount n a s).watch = s.watch := rfl
@[simp] theorem putAccount_link (n : Nat) (a : Account) (s : State) : (putAccount n a s).link = s.link := rfl
@[simp] theorem putAccount_settings (n : Nat) (a : Account) (s : State) : (putAccount n a s).settings = s.settings := rfl
@[simp] theorem putAccount_freeCount (n : Nat) (a : Account) (s : State) : (putAccount n a s).freeCount = s.freeCount := rfl
@[simp] theorem putAccount_pending (n : Nat) (a : Account) (s : State) : (putAccount n a s).pending = s.pending := rfl

/-! ## startPrinters -/

@[simp] theorem startPrinters_part (s : State) : (startPrinters s).part = s.part := rfl
@[simp] theorem startPrinters_intakes (s : State) : (startPrinters s).intakes = s.intakes := rfl
@[simp] theorem startPrinters_sync (s : State) : (startPrinters s).sync = s.sync := rfl
@[simp] theorem startPrinters_chains (s : State) : (startPrinters s).chains = s.chains := rfl
@[simp] theorem startPrinters_nextCapture (s : State) : (startPrinters s).nextCapture = s.nextCapture := rfl
@[simp] theorem startPrinters_inputs (s : State) : (startPrinters s).inputs = s.inputs := rfl
@[simp] theorem startPrinters_drives (s : State) : (startPrinters s).drives = s.drives := rfl
@[simp] theorem startPrinters_beacons (s : State) : (startPrinters s).beacons = s.beacons := rfl
@[simp] theorem startPrinters_bars (s : State) : (startPrinters s).bars = s.bars := rfl
@[simp] theorem startPrinters_recent (s : State) : (startPrinters s).recent = s.recent := rfl
@[simp] theorem startPrinters_readerErrors (s : State) : (startPrinters s).readerErrors = s.readerErrors := rfl
@[simp] theorem startPrinters_gates (s : State) : (startPrinters s).gates = s.gates := rfl
@[simp] theorem startPrinters_plat (s : State) : (startPrinters s).plat = s.plat := rfl
@[simp] theorem startPrinters_alloc (s : State) : (startPrinters s).alloc = s.alloc := rfl
@[simp] theorem startPrinters_tables (s : State) : (startPrinters s).tables = s.tables := rfl
@[simp] theorem startPrinters_visits (s : State) : (startPrinters s).visits = s.visits := rfl
@[simp] theorem startPrinters_time (s : State) : (startPrinters s).time = s.time := rfl
@[simp] theorem startPrinters_watch (s : State) : (startPrinters s).watch = s.watch := rfl
@[simp] theorem startPrinters_link (s : State) : (startPrinters s).link = s.link := rfl
@[simp] theorem startPrinters_settings (s : State) : (startPrinters s).settings = s.settings := rfl
@[simp] theorem startPrinters_freeCount (s : State) : (startPrinters s).freeCount = s.freeCount := rfl
@[simp] theorem startPrinters_pending (s : State) : (startPrinters s).pending = s.pending := rfl

/-! ## closeFrame -/

@[simp] theorem closeFrame_part (s : State) : (closeFrame s).part = s.part := rfl
@[simp] theorem closeFrame_intakes (s : State) : (closeFrame s).intakes = s.intakes := rfl
@[simp] theorem closeFrame_sync (s : State) : (closeFrame s).sync = s.sync := rfl
@[simp] theorem closeFrame_chains (s : State) : (closeFrame s).chains = s.chains := rfl
@[simp] theorem closeFrame_nextCapture (s : State) : (closeFrame s).nextCapture = s.nextCapture := rfl
@[simp] theorem closeFrame_inputs (s : State) : (closeFrame s).inputs = s.inputs := rfl
@[simp] theorem closeFrame_drives (s : State) : (closeFrame s).drives = s.drives := rfl
@[simp] theorem closeFrame_beacons (s : State) : (closeFrame s).beacons = s.beacons := rfl
@[simp] theorem closeFrame_bars (s : State) : (closeFrame s).bars = s.bars := rfl
@[simp] theorem closeFrame_recent (s : State) : (closeFrame s).recent = s.recent := rfl
@[simp] theorem closeFrame_readerErrors (s : State) : (closeFrame s).readerErrors = s.readerErrors := rfl
@[simp] theorem closeFrame_gates (s : State) : (closeFrame s).gates = s.gates := rfl
@[simp] theorem closeFrame_plat (s : State) : (closeFrame s).plat = s.plat := rfl
@[simp] theorem closeFrame_alloc (s : State) : (closeFrame s).alloc = s.alloc := rfl
@[simp] theorem closeFrame_tables (s : State) : (closeFrame s).tables = s.tables := rfl
@[simp] theorem closeFrame_visits (s : State) : (closeFrame s).visits = s.visits := rfl
@[simp] theorem closeFrame_tickets (s : State) : (closeFrame s).tickets = s.tickets := rfl
@[simp] theorem closeFrame_time (s : State) : (closeFrame s).time = s.time := rfl
@[simp] theorem closeFrame_watch (s : State) : (closeFrame s).watch = s.watch := rfl
@[simp] theorem closeFrame_settings (s : State) : (closeFrame s).settings = s.settings := rfl
@[simp] theorem closeFrame_freeCount (s : State) : (closeFrame s).freeCount = s.freeCount := rfl
@[simp] theorem closeFrame_pending (s : State) : (closeFrame s).pending = s.pending := rfl
@[simp] theorem closeFrame_link_started (s : State) : (closeFrame s).link.started = s.link.started := rfl
@[simp] theorem closeFrame_link_rate (s : State) : (closeFrame s).link.rate = s.link.rate := rfl
@[simp] theorem closeFrame_link_inService (s : State) : (closeFrame s).link.inService = s.link.inService := rfl
@[simp] theorem closeFrame_link_waiting (s : State) : (closeFrame s).link.waiting = s.link.waiting := rfl
@[simp] theorem closeFrame_link_owed (s : State) : (closeFrame s).link.owed = s.link.owed := rfl
@[simp] theorem closeFrame_link_sending (s : State) : (closeFrame s).link.sending = s.link.sending := rfl
@[simp] theorem closeFrame_link_notices (s : State) : (closeFrame s).link.notices = s.link.notices := rfl
@[simp] theorem closeFrame_link_classes (s : State) : (closeFrame s).link.classes = s.link.classes := rfl
@[simp] theorem closeFrame_link_discards (s : State) : (closeFrame s).link.discards = s.link.discards := rfl
@[simp] theorem closeFrame_assembly (s : State) : (closeFrame s).link.assembly = [] := rfl
@[simp] theorem closeFrame_gap (s : State) : (closeFrame s).link.gap = none := rfl

end Sys2Proof.Machine
end

