-- ==== Sys2Proof/Laws/FramesShared.lean ====
section
/-! SUPPORT. Frames: the parts of the state that each operation leaves as they are, for the shared operations, barriers, allocator, tickets and engine. -/

set_option linter.unusedTactic false
set_option linter.unreachableTactic false
set_option linter.unnecessarySeqFocus false

namespace Sys2Proof.Machine

theorem foldl_keeps {β γ : Type} (π : State → γ) (f : State → β → State) (h : ∀ s b, π (f s b) = π s) (l : List β) (s : State) :
    π (l.foldl f s) = π s := by
  induction l generalizing s with
  | nil => rfl
  | cons b l ih => rw [List.foldl_cons, ih, h]

@[simp] theorem foldl_part {β : Type} (f : State → β → State) (h : ∀ s b, (f s b).part = s.part) (l : List β) (s : State) :
    (l.foldl f s).part = s.part := foldl_keeps (·.part) f h l s

@[simp] theorem foldl_intakes {β : Type} (f : State → β → State) (h : ∀ s b, (f s b).intakes = s.intakes) (l : List β) (s : State) :
    (l.foldl f s).intakes = s.intakes := foldl_keeps (·.intakes) f h l s

@[simp] theorem foldl_sync {β : Type} (f : State → β → State) (h : ∀ s b, (f s b).sync = s.sync) (l : List β) (s : State) :
    (l.foldl f s).sync = s.sync := foldl_keeps (·.sync) f h l s

@[simp] theorem foldl_chains {β : Type} (f : State → β → State) (h : ∀ s b, (f s b).chains = s.chains) (l : List β) (s : State) :
    (l.foldl f s).chains = s.chains := foldl_keeps (·.chains) f h l s

@[simp] theorem foldl_nextCapture {β : Type} (f : State → β → State) (h : ∀ s b, (f s b).nextCapture = s.nextCapture) (l : List β) (s : State) :
    (l.foldl f s).nextCapture = s.nextCapture := foldl_keeps (·.nextCapture) f h l s

@[simp] theorem foldl_inputs {β : Type} (f : State → β → State) (h : ∀ s b, (f s b).inputs = s.inputs) (l : List β) (s : State) :
    (l.foldl f s).inputs = s.inputs := foldl_keeps (·.inputs) f h l s

@[simp] theorem foldl_drives {β : Type} (f : State → β → State) (h : ∀ s b, (f s b).drives = s.drives) (l : List β) (s : State) :
    (l.foldl f s).drives = s.drives := foldl_keeps (·.drives) f h l s

@[simp] theorem foldl_beacons {β : Type} (f : State → β → State) (h : ∀ s b, (f s b).beacons = s.beacons) (l : List β) (s : State) :
    (l.foldl f s).beacons = s.beacons := foldl_keeps (·.beacons) f h l s

@[simp] theorem foldl_bars {β : Type} (f : State → β → State) (h : ∀ s b, (f s b).bars = s.bars) (l : List β) (s : State) :
    (l.foldl f s).bars = s.bars := foldl_keeps (·.bars) f h l s

@[simp] theorem foldl_recent {β : Type} (f : State → β → State) (h : ∀ s b, (f s b).recent = s.recent) (l : List β) (s : State) :
    (l.foldl f s).recent = s.recent := foldl_keeps (·.recent) f h l s

@[simp] theorem foldl_readerErrors {β : Type} (f : State → β → State) (h : ∀ s b, (f s b).readerErrors = s.readerErrors) (l : List β) (s : State) :
    (l.foldl f s).readerErrors = s.readerErrors := foldl_keeps (·.readerErrors) f h l s

@[simp] theorem foldl_gates {β : Type} (f : State → β → State) (h : ∀ s b, (f s b).gates = s.gates) (l : List β) (s : State) :
    (l.foldl f s).gates = s.gates := foldl_keeps (·.gates) f h l s

@[simp] theorem foldl_plat {β : Type} (f : State → β → State) (h : ∀ s b, (f s b).plat = s.plat) (l : List β) (s : State) :
    (l.foldl f s).plat = s.plat := foldl_keeps (·.plat) f h l s

@[simp] theorem foldl_alloc {β : Type} (f : State → β → State) (h : ∀ s b, (f s b).alloc = s.alloc) (l : List β) (s : State) :
    (l.foldl f s).alloc = s.alloc := foldl_keeps (·.alloc) f h l s

@[simp] theorem foldl_tables {β : Type} (f : State → β → State) (h : ∀ s b, (f s b).tables = s.tables) (l : List β) (s : State) :
    (l.foldl f s).tables = s.tables := foldl_keeps (·.tables) f h l s

@[simp] theorem foldl_visits {β : Type} (f : State → β → State) (h : ∀ s b, (f s b).visits = s.visits) (l : List β) (s : State) :
    (l.foldl f s).visits = s.visits := foldl_keeps (·.visits) f h l s

@[simp] theorem foldl_tickets {β : Type} (f : State → β → State) (h : ∀ s b, (f s b).tickets = s.tickets) (l : List β) (s : State) :
    (l.foldl f s).tickets = s.tickets := foldl_keeps (·.tickets) f h l s

@[simp] theorem foldl_time {β : Type} (f : State → β → State) (h : ∀ s b, (f s b).time = s.time) (l : List β) (s : State) :
    (l.foldl f s).time = s.time := foldl_keeps (·.time) f h l s

@[simp] theorem foldl_watch {β : Type} (f : State → β → State) (h : ∀ s b, (f s b).watch = s.watch) (l : List β) (s : State) :
    (l.foldl f s).watch = s.watch := foldl_keeps (·.watch) f h l s

@[simp] theorem foldl_link {β : Type} (f : State → β → State) (h : ∀ s b, (f s b).link = s.link) (l : List β) (s : State) :
    (l.foldl f s).link = s.link := foldl_keeps (·.link) f h l s

@[simp] theorem foldl_settings {β : Type} (f : State → β → State) (h : ∀ s b, (f s b).settings = s.settings) (l : List β) (s : State) :
    (l.foldl f s).settings = s.settings := foldl_keeps (·.settings) f h l s

@[simp] theorem foldl_freeCount {β : Type} (f : State → β → State) (h : ∀ s b, (f s b).freeCount = s.freeCount) (l : List β) (s : State) :
    (l.foldl f s).freeCount = s.freeCount := foldl_keeps (·.freeCount) f h l s

@[simp] theorem foldl_pending {β : Type} (f : State → β → State) (h : ∀ s b, (f s b).pending = s.pending) (l : List β) (s : State) :
    (l.foldl f s).pending = s.pending := foldl_keeps (·.pending) f h l s

@[simp] theorem notify_frame (x0 : NoticeClass) (x1 : String) (x2 : List Field) (s : State) :
    (notify x0 x1 x2 s).part = s.part ∧ (notify x0 x1 x2 s).intakes = s.intakes ∧ (notify x0 x1 x2 s).sync = s.sync ∧
    (notify x0 x1 x2 s).chains = s.chains ∧ (notify x0 x1 x2 s).nextCapture = s.nextCapture ∧
    (notify x0 x1 x2 s).inputs = s.inputs ∧ (notify x0 x1 x2 s).drives = s.drives ∧
    (notify x0 x1 x2 s).beacons = s.beacons ∧ (notify x0 x1 x2 s).bars = s.bars ∧ (notify x0 x1 x2 s).recent = s.recent ∧
    (notify x0 x1 x2 s).readerErrors = s.readerErrors ∧ (notify x0 x1 x2 s).gates = s.gates ∧
    (notify x0 x1 x2 s).plat = s.plat ∧ (notify x0 x1 x2 s).alloc = s.alloc ∧ (notify x0 x1 x2 s).tables = s.tables ∧
    (notify x0 x1 x2 s).visits = s.visits ∧ (notify x0 x1 x2 s).tickets = s.tickets ∧ (notify x0 x1 x2 s).time = s.time ∧
    (notify x0 x1 x2 s).watch = s.watch ∧ (notify x0 x1 x2 s).settings = s.settings ∧
    (notify x0 x1 x2 s).freeCount = s.freeCount ∧ (notify x0 x1 x2 s).pending = s.pending := by
  unfold notify
  (try dsimp only); (repeat' split) <;> (try simp) <;> (try simp_all)

@[simp] theorem pump_frame (s : State) :
    (pump s).part = s.part ∧ (pump s).intakes = s.intakes ∧ (pump s).sync = s.sync ∧ (pump s).chains = s.chains ∧
    (pump s).nextCapture = s.nextCapture ∧ (pump s).inputs = s.inputs ∧ (pump s).drives = s.drives ∧
    (pump s).beacons = s.beacons ∧ (pump s).bars = s.bars ∧ (pump s).recent = s.recent ∧
    (pump s).readerErrors = s.readerErrors ∧ (pump s).gates = s.gates ∧ (pump s).plat = s.plat ∧ (pump s).alloc = s.alloc ∧
    (pump s).tables = s.tables ∧ (pump s).visits = s.visits ∧ (pump s).tickets = s.tickets ∧ (pump s).time = s.time ∧
    (pump s).watch = s.watch ∧ (pump s).settings = s.settings ∧ (pump s).freeCount = s.freeCount ∧
    (pump s).pending = s.pending := by
  unfold pump
  (try dsimp only); (repeat' split) <;> (try simp) <;> (try simp_all)

@[simp] theorem setZero_frame (x0 : Platform) (x1 : Int) (s : State) :
    (setZero x0 x1 s).part = s.part ∧ (setZero x0 x1 s).intakes = s.intakes ∧ (setZero x0 x1 s).sync = s.sync ∧
    (setZero x0 x1 s).nextCapture = s.nextCapture ∧ (setZero x0 x1 s).inputs = s.inputs ∧
    (setZero x0 x1 s).drives = s.drives ∧ (setZero x0 x1 s).beacons = s.beacons ∧ (setZero x0 x1 s).bars = s.bars ∧
    (setZero x0 x1 s).recent = s.recent ∧ (setZero x0 x1 s).readerErrors = s.readerErrors ∧
    (setZero x0 x1 s).gates = s.gates ∧ (setZero x0 x1 s).plat = s.plat ∧ (setZero x0 x1 s).alloc = s.alloc ∧
    (setZero x0 x1 s).tables = s.tables ∧ (setZero x0 x1 s).visits = s.visits ∧ (setZero x0 x1 s).tickets = s.tickets ∧
    (setZero x0 x1 s).time = s.time ∧ (setZero x0 x1 s).watch = s.watch ∧ (setZero x0 x1 s).link = s.link ∧
    (setZero x0 x1 s).settings = s.settings ∧ (setZero x0 x1 s).freeCount = s.freeCount ∧
    (setZero x0 x1 s).pending = s.pending := by
  unfold setZero
  (try dsimp only); (repeat' split) <;> (try simp) <;> (try simp_all)

@[simp] theorem modVisit_frame (x0 : Nat) (x1 : Visit → Visit) (s : State) :
    (modVisit x0 x1 s).part = s.part ∧ (modVisit x0 x1 s).intakes = s.intakes ∧ (modVisit x0 x1 s).sync = s.sync ∧
    (modVisit x0 x1 s).chains = s.chains ∧ (modVisit x0 x1 s).nextCapture = s.nextCapture ∧
    (modVisit x0 x1 s).inputs = s.inputs ∧ (modVisit x0 x1 s).drives = s.drives ∧ (modVisit x0 x1 s).beacons = s.beacons ∧
    (modVisit x0 x1 s).bars = s.bars ∧ (modVisit x0 x1 s).recent = s.recent ∧
    (modVisit x0 x1 s).readerErrors = s.readerErrors ∧ (modVisit x0 x1 s).gates = s.gates ∧
    (modVisit x0 x1 s).plat = s.plat ∧ (modVisit x0 x1 s).alloc = s.alloc ∧ (modVisit x0 x1 s).tables = s.tables ∧
    (modVisit x0 x1 s).tickets = s.tickets ∧ (modVisit x0 x1 s).time = s.time ∧ (modVisit x0 x1 s).watch = s.watch ∧
    (modVisit x0 x1 s).link = s.link ∧ (modVisit x0 x1 s).settings = s.settings ∧
    (modVisit x0 x1 s).freeCount = s.freeCount ∧ (modVisit x0 x1 s).pending = s.pending := by
  unfold modVisit
  (try dsimp only); (repeat' split) <;> (try simp) <;> (try simp_all)

@[simp] theorem modAccount_frame (x0 : Nat) (x1 : Account → Account) (s : State) :
    (modAccount x0 x1 s).part = s.part ∧ (modAccount x0 x1 s).intakes = s.intakes ∧ (modAccount x0 x1 s).sync = s.sync ∧
    (modAccount x0 x1 s).chains = s.chains ∧ (modAccount x0 x1 s).nextCapture = s.nextCapture ∧
    (modAccount x0 x1 s).inputs = s.inputs ∧ (modAccount x0 x1 s).drives = s.drives ∧
    (modAccount x0 x1 s).beacons = s.beacons ∧ (modAccount x0 x1 s).bars = s.bars ∧ (modAccount x0 x1 s).recent = s.recent ∧
    (modAccount x0 x1 s).readerErrors = s.readerErrors ∧ (modAccount x0 x1 s).gates = s.gates ∧
    (modAccount x0 x1 s).plat = s.plat ∧ (modAccount x0 x1 s).alloc = s.alloc ∧ (modAccount x0 x1 s).visits = s.visits ∧
    (modAccount x0 x1 s).tickets = s.tickets ∧ (modAccount x0 x1 s).time = s.time ∧ (modAccount x0 x1 s).watch = s.watch ∧
    (modAccount x0 x1 s).link = s.link ∧ (modAccount x0 x1 s).settings = s.settings ∧
    (modAccount x0 x1 s).freeCount = s.freeCount ∧ (modAccount x0 x1 s).pending = s.pending := by
  unfold modAccount
  (try dsimp only); (repeat' split) <;> (try simp) <;> (try simp_all)

@[simp] theorem setBar_frame (x0 : Barrier) (x1 : Bar) (s : State) :
    (setBar x0 x1 s).part = s.part ∧ (setBar x0 x1 s).intakes = s.intakes ∧ (setBar x0 x1 s).sync = s.sync ∧
    (setBar x0 x1 s).chains = s.chains ∧ (setBar x0 x1 s).nextCapture = s.nextCapture ∧ (setBar x0 x1 s).inputs = s.inputs ∧
    (setBar x0 x1 s).beacons = s.beacons ∧ (setBar x0 x1 s).recent = s.recent ∧
    (setBar x0 x1 s).readerErrors = s.readerErrors ∧ (setBar x0 x1 s).gates = s.gates ∧ (setBar x0 x1 s).plat = s.plat ∧
    (setBar x0 x1 s).alloc = s.alloc ∧ (setBar x0 x1 s).tables = s.tables ∧ (setBar x0 x1 s).visits = s.visits ∧
    (setBar x0 x1 s).tickets = s.tickets ∧ (setBar x0 x1 s).time = s.time ∧ (setBar x0 x1 s).watch = s.watch ∧
    (setBar x0 x1 s).link = s.link ∧ (setBar x0 x1 s).settings = s.settings ∧ (setBar x0 x1 s).freeCount = s.freeCount ∧
    (setBar x0 x1 s).pending = s.pending := by
  unfold setBar
  (try dsimp only); (repeat' split) <;> (try simp) <;> (try simp_all)

@[simp] theorem raiseReq_frame (x0 : Barrier) (s : State) :
    (raiseReq x0 s).part = s.part ∧ (raiseReq x0 s).intakes = s.intakes ∧ (raiseReq x0 s).sync = s.sync ∧
    (raiseReq x0 s).chains = s.chains ∧ (raiseReq x0 s).nextCapture = s.nextCapture ∧ (raiseReq x0 s).inputs = s.inputs ∧
    (raiseReq x0 s).beacons = s.beacons ∧ (raiseReq x0 s).recent = s.recent ∧
    (raiseReq x0 s).readerErrors = s.readerErrors ∧ (raiseReq x0 s).gates = s.gates ∧ (raiseReq x0 s).plat = s.plat ∧
    (raiseReq x0 s).alloc = s.alloc ∧ (raiseReq x0 s).tables = s.tables ∧ (raiseReq x0 s).visits = s.visits ∧
    (raiseReq x0 s).tickets = s.tickets ∧ (raiseReq x0 s).time = s.time ∧ (raiseReq x0 s).watch = s.watch ∧
    (raiseReq x0 s).link = s.link ∧ (raiseReq x0 s).settings = s.settings ∧ (raiseReq x0 s).freeCount = s.freeCount ∧
    (raiseReq x0 s).pending = s.pending := by
  unfold raiseReq
  (try dsimp only); (repeat' split) <;> (try simp) <;> (try simp_all)

@[simp] theorem lowerReq_frame (x0 : Barrier) (s : State) :
    (lowerReq x0 s).part = s.part ∧ (lowerReq x0 s).intakes = s.intakes ∧ (lowerReq x0 s).sync = s.sync ∧
    (lowerReq x0 s).chains = s.chains ∧ (lowerReq x0 s).nextCapture = s.nextCapture ∧ (lowerReq x0 s).inputs = s.inputs ∧
    (lowerReq x0 s).beacons = s.beacons ∧ (lowerReq x0 s).recent = s.recent ∧
    (lowerReq x0 s).readerErrors = s.readerErrors ∧ (lowerReq x0 s).gates = s.gates ∧ (lowerReq x0 s).plat = s.plat ∧
    (lowerReq x0 s).alloc = s.alloc ∧ (lowerReq x0 s).tables = s.tables ∧ (lowerReq x0 s).visits = s.visits ∧
    (lowerReq x0 s).tickets = s.tickets ∧ (lowerReq x0 s).time = s.time ∧ (lowerReq x0 s).watch = s.watch ∧
    (lowerReq x0 s).link = s.link ∧ (lowerReq x0 s).settings = s.settings ∧ (lowerReq x0 s).freeCount = s.freeCount ∧
    (lowerReq x0 s).pending = s.pending := by
  unfold lowerReq
  (try dsimp only); (repeat' split) <;> (try simp) <;> (try simp_all)

@[simp] theorem lampOn_frame (x0 : Barrier) (s : State) :
    (lampOn x0 s).part = s.part ∧ (lampOn x0 s).intakes = s.intakes ∧ (lampOn x0 s).sync = s.sync ∧
    (lampOn x0 s).chains = s.chains ∧ (lampOn x0 s).nextCapture = s.nextCapture ∧ (lampOn x0 s).inputs = s.inputs ∧
    (lampOn x0 s).beacons = s.beacons ∧ (lampOn x0 s).recent = s.recent ∧ (lampOn x0 s).readerErrors = s.readerErrors ∧
    (lampOn x0 s).gates = s.gates ∧ (lampOn x0 s).plat = s.plat ∧ (lampOn x0 s).alloc = s.alloc ∧
    (lampOn x0 s).tables = s.tables ∧ (lampOn x0 s).visits = s.visits ∧ (lampOn x0 s).tickets = s.tickets ∧
    (lampOn x0 s).time = s.time ∧ (lampOn x0 s).watch = s.watch ∧ (lampOn x0 s).link = s.link ∧
    (lampOn x0 s).settings = s.settings ∧ (lampOn x0 s).freeCount = s.freeCount ∧ (lampOn x0 s).pending = s.pending := by
  unfold lampOn
  (try dsimp only); (repeat' split) <;> (try simp) <;> (try simp_all)

@[simp] theorem lampOff_frame (x0 : Barrier) (s : State) :
    (lampOff x0 s).part = s.part ∧ (lampOff x0 s).intakes = s.intakes ∧ (lampOff x0 s).sync = s.sync ∧
    (lampOff x0 s).chains = s.chains ∧ (lampOff x0 s).nextCapture = s.nextCapture ∧ (lampOff x0 s).inputs = s.inputs ∧
    (lampOff x0 s).beacons = s.beacons ∧ (lampOff x0 s).recent = s.recent ∧ (lampOff x0 s).readerErrors = s.readerErrors ∧
    (lampOff x0 s).gates = s.gates ∧ (lampOff x0 s).plat = s.plat ∧ (lampOff x0 s).alloc = s.alloc ∧
    (lampOff x0 s).tables = s.tables ∧ (lampOff x0 s).visits = s.visits ∧ (lampOff x0 s).tickets = s.tickets ∧
    (lampOff x0 s).time = s.time ∧ (lampOff x0 s).watch = s.watch ∧ (lampOff x0 s).link = s.link ∧
    (lampOff x0 s).settings = s.settings ∧ (lampOff x0 s).freeCount = s.freeCount ∧ (lampOff x0 s).pending = s.pending := by
  unfold lampOff
  (try dsimp only); (repeat' split) <;> (try simp) <;> (try simp_all)

@[simp] theorem barFault_frame (x0 : Barrier) (x1 : FaultCause) (s : State) :
    (barFault x0 x1 s).part = s.part ∧ (barFault x0 x1 s).intakes = s.intakes ∧ (barFault x0 x1 s).sync = s.sync ∧
    (barFault x0 x1 s).chains = s.chains ∧ (barFault x0 x1 s).nextCapture = s.nextCapture ∧
    (barFault x0 x1 s).inputs = s.inputs ∧ (barFault x0 x1 s).beacons = s.beacons ∧ (barFault x0 x1 s).recent = s.recent ∧
    (barFault x0 x1 s).readerErrors = s.readerErrors ∧ (barFault x0 x1 s).gates = s.gates ∧
    (barFault x0 x1 s).plat = s.plat ∧ (barFault x0 x1 s).alloc = s.alloc ∧ (barFault x0 x1 s).tables = s.tables ∧
    (barFault x0 x1 s).visits = s.visits ∧ (barFault x0 x1 s).tickets = s.tickets ∧ (barFault x0 x1 s).time = s.time ∧
    (barFault x0 x1 s).watch = s.watch ∧ (barFault x0 x1 s).settings = s.settings ∧
    (barFault x0 x1 s).freeCount = s.freeCount ∧ (barFault x0 x1 s).pending = s.pending := by
  unfold barFault
  (try dsimp only); (repeat' split) <;> (try simp) <;> (try simp_all)

@[simp] theorem limitLost_frame (x0 : Barrier) (x1 : String) (s : State) :
    (limitLost x0 x1 s).part = s.part ∧ (limitLost x0 x1 s).intakes = s.intakes ∧ (limitLost x0 x1 s).sync = s.sync ∧
    (limitLost x0 x1 s).chains = s.chains ∧ (limitLost x0 x1 s).nextCapture = s.nextCapture ∧
    (limitLost x0 x1 s).inputs = s.inputs ∧ (limitLost x0 x1 s).drives = s.drives ∧
    (limitLost x0 x1 s).beacons = s.beacons ∧ (limitLost x0 x1 s).bars = s.bars ∧ (limitLost x0 x1 s).recent = s.recent ∧
    (limitLost x0 x1 s).readerErrors = s.readerErrors ∧ (limitLost x0 x1 s).gates = s.gates ∧
    (limitLost x0 x1 s).plat = s.plat ∧ (limitLost x0 x1 s).alloc = s.alloc ∧ (limitLost x0 x1 s).tables = s.tables ∧
    (limitLost x0 x1 s).visits = s.visits ∧ (limitLost x0 x1 s).tickets = s.tickets ∧ (limitLost x0 x1 s).time = s.time ∧
    (limitLost x0 x1 s).watch = s.watch ∧ (limitLost x0 x1 s).settings = s.settings ∧
    (limitLost x0 x1 s).freeCount = s.freeCount ∧ (limitLost x0 x1 s).pending = s.pending := by
  unfold limitLost
  (try dsimp only); (repeat' split) <;> (try simp) <;> (try simp_all)

@[simp] theorem barUpLimit_frame (x0 : Barrier) (x1 : Bool) (s : State) :
    (barUpLimit x0 x1 s).1.part = s.part ∧ (barUpLimit x0 x1 s).1.intakes = s.intakes ∧
    (barUpLimit x0 x1 s).1.sync = s.sync ∧ (barUpLimit x0 x1 s).1.chains = s.chains ∧
    (barUpLimit x0 x1 s).1.nextCapture = s.nextCapture ∧ (barUpLimit x0 x1 s).1.inputs = s.inputs ∧
    (barUpLimit x0 x1 s).1.beacons = s.beacons ∧ (barUpLimit x0 x1 s).1.recent = s.recent ∧
    (barUpLimit x0 x1 s).1.readerErrors = s.readerErrors ∧ (barUpLimit x0 x1 s).1.gates = s.gates ∧
    (barUpLimit x0 x1 s).1.plat = s.plat ∧ (barUpLimit x0 x1 s).1.alloc = s.alloc ∧
    (barUpLimit x0 x1 s).1.tables = s.tables ∧ (barUpLimit x0 x1 s).1.visits = s.visits ∧
    (barUpLimit x0 x1 s).1.tickets = s.tickets ∧ (barUpLimit x0 x1 s).1.time = s.time ∧
    (barUpLimit x0 x1 s).1.watch = s.watch ∧ (barUpLimit x0 x1 s).1.settings = s.settings ∧
    (barUpLimit x0 x1 s).1.freeCount = s.freeCount ∧ (barUpLimit x0 x1 s).1.pending = s.pending := by
  unfold barUpLimit
  (try dsimp only); (repeat' split) <;> (try simp) <;> (try simp_all)

@[simp] theorem barDownLimit_frame (x0 : Barrier) (x1 : Bool) (s : State) :
    (barDownLimit x0 x1 s).1.part = s.part ∧ (barDownLimit x0 x1 s).1.intakes = s.intakes ∧
    (barDownLimit x0 x1 s).1.sync = s.sync ∧ (barDownLimit x0 x1 s).1.chains = s.chains ∧
    (barDownLimit x0 x1 s).1.nextCapture = s.nextCapture ∧ (barDownLimit x0 x1 s).1.inputs = s.inputs ∧
    (barDownLimit x0 x1 s).1.beacons = s.beacons ∧ (barDownLimit x0 x1 s).1.recent = s.recent ∧
    (barDownLimit x0 x1 s).1.readerErrors = s.readerErrors ∧ (barDownLimit x0 x1 s).1.gates = s.gates ∧
    (barDownLimit x0 x1 s).1.plat = s.plat ∧ (barDownLimit x0 x1 s).1.alloc = s.alloc ∧
    (barDownLimit x0 x1 s).1.tables = s.tables ∧ (barDownLimit x0 x1 s).1.visits = s.visits ∧
    (barDownLimit x0 x1 s).1.tickets = s.tickets ∧ (barDownLimit x0 x1 s).1.time = s.time ∧
    (barDownLimit x0 x1 s).1.watch = s.watch ∧ (barDownLimit x0 x1 s).1.settings = s.settings ∧
    (barDownLimit x0 x1 s).1.freeCount = s.freeCount ∧ (barDownLimit x0 x1 s).1.pending = s.pending := by
  unfold barDownLimit
  (try dsimp only); (repeat' split) <;> (try simp) <;> (try simp_all)

@[simp] theorem barBeam_frame (x0 : Barrier) (x1 : Bool) (s : State) :
    (barBeam x0 x1 s).1.part = s.part ∧ (barBeam x0 x1 s).1.intakes = s.intakes ∧ (barBeam x0 x1 s).1.sync = s.sync ∧
    (barBeam x0 x1 s).1.chains = s.chains ∧ (barBeam x0 x1 s).1.nextCapture = s.nextCapture ∧
    (barBeam x0 x1 s).1.inputs = s.inputs ∧ (barBeam x0 x1 s).1.beacons = s.beacons ∧
    (barBeam x0 x1 s).1.recent = s.recent ∧ (barBeam x0 x1 s).1.readerErrors = s.readerErrors ∧
    (barBeam x0 x1 s).1.gates = s.gates ∧ (barBeam x0 x1 s).1.plat = s.plat ∧ (barBeam x0 x1 s).1.alloc = s.alloc ∧
    (barBeam x0 x1 s).1.tables = s.tables ∧ (barBeam x0 x1 s).1.visits = s.visits ∧
    (barBeam x0 x1 s).1.tickets = s.tickets ∧ (barBeam x0 x1 s).1.time = s.time ∧ (barBeam x0 x1 s).1.watch = s.watch ∧
    (barBeam x0 x1 s).1.settings = s.settings ∧ (barBeam x0 x1 s).1.freeCount = s.freeCount ∧
    (barBeam x0 x1 s).1.pending = s.pending := by
  unfold barBeam
  (try dsimp only); (repeat' split) <;> (try simp) <;> (try simp_all)

@[simp] theorem barTravelExpiry_frame (x0 : Barrier) (s : State) :
    (barTravelExpiry x0 s).1.part = s.part ∧ (barTravelExpiry x0 s).1.intakes = s.intakes ∧
    (barTravelExpiry x0 s).1.sync = s.sync ∧ (barTravelExpiry x0 s).1.chains = s.chains ∧
    (barTravelExpiry x0 s).1.nextCapture = s.nextCapture ∧ (barTravelExpiry x0 s).1.inputs = s.inputs ∧
    (barTravelExpiry x0 s).1.beacons = s.beacons ∧ (barTravelExpiry x0 s).1.recent = s.recent ∧
    (barTravelExpiry x0 s).1.readerErrors = s.readerErrors ∧ (barTravelExpiry x0 s).1.gates = s.gates ∧
    (barTravelExpiry x0 s).1.plat = s.plat ∧ (barTravelExpiry x0 s).1.alloc = s.alloc ∧
    (barTravelExpiry x0 s).1.tables = s.tables ∧ (barTravelExpiry x0 s).1.visits = s.visits ∧
    (barTravelExpiry x0 s).1.tickets = s.tickets ∧ (barTravelExpiry x0 s).1.time = s.time ∧
    (barTravelExpiry x0 s).1.watch = s.watch ∧ (barTravelExpiry x0 s).1.settings = s.settings ∧
    (barTravelExpiry x0 s).1.freeCount = s.freeCount ∧ (barTravelExpiry x0 s).1.pending = s.pending := by
  unfold barTravelExpiry
  (try dsimp only); (repeat' split) <;> (try simp) <;> (try simp_all)

@[simp] theorem judgeSign_frame (x0 : Deck) (s : State) :
    (judgeSign x0 s).part = s.part ∧ (judgeSign x0 s).intakes = s.intakes ∧ (judgeSign x0 s).sync = s.sync ∧
    (judgeSign x0 s).chains = s.chains ∧ (judgeSign x0 s).nextCapture = s.nextCapture ∧ (judgeSign x0 s).inputs = s.inputs ∧
    (judgeSign x0 s).drives = s.drives ∧ (judgeSign x0 s).beacons = s.beacons ∧ (judgeSign x0 s).bars = s.bars ∧
    (judgeSign x0 s).recent = s.recent ∧ (judgeSign x0 s).readerErrors = s.readerErrors ∧ (judgeSign x0 s).gates = s.gates ∧
    (judgeSign x0 s).alloc = s.alloc ∧ (judgeSign x0 s).tables = s.tables ∧ (judgeSign x0 s).visits = s.visits ∧
    (judgeSign x0 s).tickets = s.tickets ∧ (judgeSign x0 s).time = s.time ∧ (judgeSign x0 s).watch = s.watch ∧
    (judgeSign x0 s).link = s.link ∧ (judgeSign x0 s).settings = s.settings ∧ (judgeSign x0 s).freeCount = s.freeCount ∧
    (judgeSign x0 s).pending = s.pending := by
  unfold judgeSign
  (try dsimp only); (repeat' split) <;> (try simp) <;> (try simp_all)

@[simp] theorem judgeSigns_frame (s : State) :
    (judgeSigns s).part = s.part ∧ (judgeSigns s).intakes = s.intakes ∧ (judgeSigns s).sync = s.sync ∧
    (judgeSigns s).chains = s.chains ∧ (judgeSigns s).nextCapture = s.nextCapture ∧ (judgeSigns s).inputs = s.inputs ∧
    (judgeSigns s).drives = s.drives ∧ (judgeSigns s).beacons = s.beacons ∧ (judgeSigns s).bars = s.bars ∧
    (judgeSigns s).recent = s.recent ∧ (judgeSigns s).readerErrors = s.readerErrors ∧ (judgeSigns s).gates = s.gates ∧
    (judgeSigns s).alloc = s.alloc ∧ (judgeSigns s).tables = s.tables ∧ (judgeSigns s).visits = s.visits ∧
    (judgeSigns s).tickets = s.tickets ∧ (judgeSigns s).time = s.time ∧ (judgeSigns s).watch = s.watch ∧
    (judgeSigns s).link = s.link ∧ (judgeSigns s).settings = s.settings ∧ (judgeSigns s).freeCount = s.freeCount ∧
    (judgeSigns s).pending = s.pending := by
  unfold judgeSigns
  (try dsimp only); (repeat' split) <;> (try simp) <;> (try simp_all)

@[simp] theorem refreshBeacons_frame (s : State) :
    (refreshBeacons s).part = s.part ∧ (refreshBeacons s).intakes = s.intakes ∧ (refreshBeacons s).sync = s.sync ∧
    (refreshBeacons s).chains = s.chains ∧ (refreshBeacons s).nextCapture = s.nextCapture ∧
    (refreshBeacons s).inputs = s.inputs ∧ (refreshBeacons s).drives = s.drives ∧ (refreshBeacons s).bars = s.bars ∧
    (refreshBeacons s).recent = s.recent ∧ (refreshBeacons s).readerErrors = s.readerErrors ∧
    (refreshBeacons s).gates = s.gates ∧ (refreshBeacons s).plat = s.plat ∧ (refreshBeacons s).alloc = s.alloc ∧
    (refreshBeacons s).tables = s.tables ∧ (refreshBeacons s).visits = s.visits ∧ (refreshBeacons s).tickets = s.tickets ∧
    (refreshBeacons s).time = s.time ∧ (refreshBeacons s).watch = s.watch ∧ (refreshBeacons s).link = s.link ∧
    (refreshBeacons s).settings = s.settings ∧ (refreshBeacons s).freeCount = s.freeCount ∧
    (refreshBeacons s).pending = s.pending := by
  unfold refreshBeacons
  (try dsimp only); (repeat' split) <;> (try simp) <;> (try simp_all)

@[simp] theorem putRec_frame (x0 : Platform) (x1 : PlatRec) (s : State) :
    (putRec x0 x1 s).part = s.part ∧ (putRec x0 x1 s).intakes = s.intakes ∧ (putRec x0 x1 s).sync = s.sync ∧
    (putRec x0 x1 s).chains = s.chains ∧ (putRec x0 x1 s).nextCapture = s.nextCapture ∧ (putRec x0 x1 s).inputs = s.inputs ∧
    (putRec x0 x1 s).drives = s.drives ∧ (putRec x0 x1 s).bars = s.bars ∧ (putRec x0 x1 s).recent = s.recent ∧
    (putRec x0 x1 s).readerErrors = s.readerErrors ∧ (putRec x0 x1 s).gates = s.gates ∧ (putRec x0 x1 s).alloc = s.alloc ∧
    (putRec x0 x1 s).tables = s.tables ∧ (putRec x0 x1 s).visits = s.visits ∧ (putRec x0 x1 s).tickets = s.tickets ∧
    (putRec x0 x1 s).time = s.time ∧ (putRec x0 x1 s).watch = s.watch ∧ (putRec x0 x1 s).link = s.link ∧
    (putRec x0 x1 s).settings = s.settings ∧ (putRec x0 x1 s).freeCount = s.freeCount ∧
    (putRec x0 x1 s).pending = s.pending := by
  unfold putRec
  (try dsimp only); (repeat' split) <;> (try simp) <;> (try simp_all)

@[simp] theorem joinQueue_frame (x0 : Nat) (s : State) :
    (joinQueue x0 s).part = s.part ∧ (joinQueue x0 s).intakes = s.intakes ∧ (joinQueue x0 s).sync = s.sync ∧
    (joinQueue x0 s).chains = s.chains ∧ (joinQueue x0 s).nextCapture = s.nextCapture ∧ (joinQueue x0 s).inputs = s.inputs ∧
    (joinQueue x0 s).drives = s.drives ∧ (joinQueue x0 s).beacons = s.beacons ∧ (joinQueue x0 s).bars = s.bars ∧
    (joinQueue x0 s).recent = s.recent ∧ (joinQueue x0 s).readerErrors = s.readerErrors ∧ (joinQueue x0 s).gates = s.gates ∧
    (joinQueue x0 s).plat = s.plat ∧ (joinQueue x0 s).tables = s.tables ∧ (joinQueue x0 s).visits = s.visits ∧
    (joinQueue x0 s).tickets = s.tickets ∧ (joinQueue x0 s).time = s.time ∧ (joinQueue x0 s).watch = s.watch ∧
    (joinQueue x0 s).link = s.link ∧ (joinQueue x0 s).settings = s.settings ∧ (joinQueue x0 s).freeCount = s.freeCount ∧
    (joinQueue x0 s).pending = s.pending := by
  unfold joinQueue
  (try dsimp only); (repeat' split) <;> (try simp) <;> (try simp_all)

@[simp] theorem leaveQueue_frame (x0 : Nat) (s : State) :
    (leaveQueue x0 s).part = s.part ∧ (leaveQueue x0 s).intakes = s.intakes ∧ (leaveQueue x0 s).sync = s.sync ∧
    (leaveQueue x0 s).chains = s.chains ∧ (leaveQueue x0 s).nextCapture = s.nextCapture ∧
    (leaveQueue x0 s).inputs = s.inputs ∧ (leaveQueue x0 s).drives = s.drives ∧ (leaveQueue x0 s).beacons = s.beacons ∧
    (leaveQueue x0 s).bars = s.bars ∧ (leaveQueue x0 s).recent = s.recent ∧
    (leaveQueue x0 s).readerErrors = s.readerErrors ∧ (leaveQueue x0 s).gates = s.gates ∧ (leaveQueue x0 s).plat = s.plat ∧
    (leaveQueue x0 s).tables = s.tables ∧ (leaveQueue x0 s).visits = s.visits ∧ (leaveQueue x0 s).tickets = s.tickets ∧
    (leaveQueue x0 s).time = s.time ∧ (leaveQueue x0 s).watch = s.watch ∧ (leaveQueue x0 s).link = s.link ∧
    (leaveQueue x0 s).settings = s.settings ∧ (leaveQueue x0 s).freeCount = s.freeCount ∧
    (leaveQueue x0 s).pending = s.pending := by
  unfold leaveQueue
  (try dsimp only); (repeat' split) <;> (try simp) <;> (try simp_all)

@[simp] theorem enterQueued_frame (x0 : Nat) (s : State) :
    (enterQueued x0 s).part = s.part ∧ (enterQueued x0 s).intakes = s.intakes ∧ (enterQueued x0 s).sync = s.sync ∧
    (enterQueued x0 s).chains = s.chains ∧ (enterQueued x0 s).nextCapture = s.nextCapture ∧
    (enterQueued x0 s).inputs = s.inputs ∧ (enterQueued x0 s).drives = s.drives ∧ (enterQueued x0 s).beacons = s.beacons ∧
    (enterQueued x0 s).bars = s.bars ∧ (enterQueued x0 s).recent = s.recent ∧
    (enterQueued x0 s).readerErrors = s.readerErrors ∧ (enterQueued x0 s).gates = s.gates ∧
    (enterQueued x0 s).plat = s.plat ∧ (enterQueued x0 s).tables = s.tables ∧ (enterQueued x0 s).tickets = s.tickets ∧
    (enterQueued x0 s).time = s.time ∧ (enterQueued x0 s).watch = s.watch ∧ (enterQueued x0 s).link = s.link ∧
    (enterQueued x0 s).settings = s.settings ∧ (enterQueued x0 s).freeCount = s.freeCount ∧
    (enterQueued x0 s).pending = s.pending := by
  unfold enterQueued
  (try dsimp only); (repeat' split) <;> (try simp) <;> (try simp_all)

@[simp] theorem grantFor_frame (x0 : Platform) (s : State) :
    (grantFor x0 s).part = s.part ∧ (grantFor x0 s).intakes = s.intakes ∧ (grantFor x0 s).sync = s.sync ∧
    (grantFor x0 s).chains = s.chains ∧ (grantFor x0 s).nextCapture = s.nextCapture ∧ (grantFor x0 s).inputs = s.inputs ∧
    (grantFor x0 s).drives = s.drives ∧ (grantFor x0 s).beacons = s.beacons ∧ (grantFor x0 s).bars = s.bars ∧
    (grantFor x0 s).recent = s.recent ∧ (grantFor x0 s).readerErrors = s.readerErrors ∧ (grantFor x0 s).gates = s.gates ∧
    (grantFor x0 s).plat = s.plat ∧ (grantFor x0 s).tables = s.tables ∧ (grantFor x0 s).visits = s.visits ∧
    (grantFor x0 s).tickets = s.tickets ∧ (grantFor x0 s).time = s.time ∧ (grantFor x0 s).watch = s.watch ∧
    (grantFor x0 s).link = s.link ∧ (grantFor x0 s).settings = s.settings ∧ (grantFor x0 s).freeCount = s.freeCount ∧
    (grantFor x0 s).pending = s.pending := by
  unfold grantFor
  (try dsimp only); (repeat' split) <;> (try simp) <;> (try simp_all)

@[simp] theorem grantRule_frame (s : State) :
    (grantRule s).part = s.part ∧ (grantRule s).intakes = s.intakes ∧ (grantRule s).sync = s.sync ∧
    (grantRule s).chains = s.chains ∧ (grantRule s).nextCapture = s.nextCapture ∧ (grantRule s).inputs = s.inputs ∧
    (grantRule s).drives = s.drives ∧ (grantRule s).beacons = s.beacons ∧ (grantRule s).bars = s.bars ∧
    (grantRule s).recent = s.recent ∧ (grantRule s).readerErrors = s.readerErrors ∧ (grantRule s).gates = s.gates ∧
    (grantRule s).plat = s.plat ∧ (grantRule s).tables = s.tables ∧ (grantRule s).visits = s.visits ∧
    (grantRule s).tickets = s.tickets ∧ (grantRule s).time = s.time ∧ (grantRule s).watch = s.watch ∧
    (grantRule s).link = s.link ∧ (grantRule s).settings = s.settings ∧ (grantRule s).freeCount = s.freeCount ∧
    (grantRule s).pending = s.pending := by
  simp [grantRule]

@[simp] theorem settleAllocator_frame (x0 : State) (s : State) :
    (settleAllocator x0 s).part = s.part ∧ (settleAllocator x0 s).intakes = s.intakes ∧
    (settleAllocator x0 s).sync = s.sync ∧ (settleAllocator x0 s).chains = s.chains ∧
    (settleAllocator x0 s).nextCapture = s.nextCapture ∧ (settleAllocator x0 s).inputs = s.inputs ∧
    (settleAllocator x0 s).drives = s.drives ∧ (settleAllocator x0 s).beacons = s.beacons ∧
    (settleAllocator x0 s).bars = s.bars ∧ (settleAllocator x0 s).recent = s.recent ∧
    (settleAllocator x0 s).readerErrors = s.readerErrors ∧ (settleAllocator x0 s).gates = s.gates ∧
    (settleAllocator x0 s).plat = s.plat ∧ (settleAllocator x0 s).tables = s.tables ∧
    (settleAllocator x0 s).visits = s.visits ∧ (settleAllocator x0 s).tickets = s.tickets ∧
    (settleAllocator x0 s).time = s.time ∧ (settleAllocator x0 s).watch = s.watch ∧ (settleAllocator x0 s).link = s.link ∧
    (settleAllocator x0 s).settings = s.settings ∧ (settleAllocator x0 s).freeCount = s.freeCount ∧
    (settleAllocator x0 s).pending = s.pending := by
  unfold settleAllocator
  (try dsimp only); (repeat' split) <;> (try simp) <;> (try simp_all)

@[simp] theorem reserve_frame (x0 : Nat) (x1 : Nat) (s : State) :
    (reserve x0 x1 s).part = s.part ∧ (reserve x0 x1 s).intakes = s.intakes ∧ (reserve x0 x1 s).sync = s.sync ∧
    (reserve x0 x1 s).chains = s.chains ∧ (reserve x0 x1 s).nextCapture = s.nextCapture ∧
    (reserve x0 x1 s).inputs = s.inputs ∧ (reserve x0 x1 s).drives = s.drives ∧ (reserve x0 x1 s).beacons = s.beacons ∧
    (reserve x0 x1 s).bars = s.bars ∧ (reserve x0 x1 s).recent = s.recent ∧
    (reserve x0 x1 s).readerErrors = s.readerErrors ∧ (reserve x0 x1 s).gates = s.gates ∧ (reserve x0 x1 s).plat = s.plat ∧
    (reserve x0 x1 s).alloc = s.alloc ∧ (reserve x0 x1 s).visits = s.visits ∧ (reserve x0 x1 s).tickets = s.tickets ∧
    (reserve x0 x1 s).time = s.time ∧ (reserve x0 x1 s).watch = s.watch ∧ (reserve x0 x1 s).link = s.link ∧
    (reserve x0 x1 s).settings = s.settings ∧ (reserve x0 x1 s).freeCount = s.freeCount ∧
    (reserve x0 x1 s).pending = s.pending := by
  unfold reserve
  (try dsimp only); (repeat' split) <;> (try simp) <;> (try simp_all)

@[simp] theorem settle_frame (x0 : Nat) (x1 : Nat) (x2 : Nat) (s : State) :
    (settle x0 x1 x2 s).part = s.part ∧ (settle x0 x1 x2 s).intakes = s.intakes ∧ (settle x0 x1 x2 s).sync = s.sync ∧
    (settle x0 x1 x2 s).chains = s.chains ∧ (settle x0 x1 x2 s).nextCapture = s.nextCapture ∧
    (settle x0 x1 x2 s).inputs = s.inputs ∧ (settle x0 x1 x2 s).drives = s.drives ∧
    (settle x0 x1 x2 s).beacons = s.beacons ∧ (settle x0 x1 x2 s).bars = s.bars ∧ (settle x0 x1 x2 s).recent = s.recent ∧
    (settle x0 x1 x2 s).readerErrors = s.readerErrors ∧ (settle x0 x1 x2 s).gates = s.gates ∧
    (settle x0 x1 x2 s).plat = s.plat ∧ (settle x0 x1 x2 s).alloc = s.alloc ∧ (settle x0 x1 x2 s).visits = s.visits ∧
    (settle x0 x1 x2 s).tickets = s.tickets ∧ (settle x0 x1 x2 s).time = s.time ∧ (settle x0 x1 x2 s).watch = s.watch ∧
    (settle x0 x1 x2 s).link = s.link ∧ (settle x0 x1 x2 s).settings = s.settings ∧
    (settle x0 x1 x2 s).freeCount = s.freeCount ∧ (settle x0 x1 x2 s).pending = s.pending := by
  unfold settle
  (try dsimp only); (repeat' split) <;> (try simp) <;> (try simp_all)

@[simp] theorem rolloverAccounts_frame (s : State) :
    (rolloverAccounts s).part = s.part ∧ (rolloverAccounts s).intakes = s.intakes ∧ (rolloverAccounts s).sync = s.sync ∧
    (rolloverAccounts s).chains = s.chains ∧ (rolloverAccounts s).nextCapture = s.nextCapture ∧
    (rolloverAccounts s).inputs = s.inputs ∧ (rolloverAccounts s).drives = s.drives ∧
    (rolloverAccounts s).beacons = s.beacons ∧ (rolloverAccounts s).bars = s.bars ∧ (rolloverAccounts s).recent = s.recent ∧
    (rolloverAccounts s).readerErrors = s.readerErrors ∧ (rolloverAccounts s).gates = s.gates ∧
    (rolloverAccounts s).plat = s.plat ∧ (rolloverAccounts s).alloc = s.alloc ∧ (rolloverAccounts s).visits = s.visits ∧
    (rolloverAccounts s).tickets = s.tickets ∧ (rolloverAccounts s).time = s.time ∧ (rolloverAccounts s).watch = s.watch ∧
    (rolloverAccounts s).link = s.link ∧ (rolloverAccounts s).settings = s.settings ∧
    (rolloverAccounts s).freeCount = s.freeCount ∧ (rolloverAccounts s).pending = s.pending := by
  unfold rolloverAccounts
  (try dsimp only); (repeat' split) <;> (try simp) <;> (try simp_all)

@[simp] theorem refreshTare_frame (x0 : Nat) (s : State) :
    (refreshTare x0 s).part = s.part ∧ (refreshTare x0 s).intakes = s.intakes ∧ (refreshTare x0 s).sync = s.sync ∧
    (refreshTare x0 s).chains = s.chains ∧ (refreshTare x0 s).nextCapture = s.nextCapture ∧
    (refreshTare x0 s).inputs = s.inputs ∧ (refreshTare x0 s).drives = s.drives ∧ (refreshTare x0 s).beacons = s.beacons ∧
    (refreshTare x0 s).bars = s.bars ∧ (refreshTare x0 s).recent = s.recent ∧
    (refreshTare x0 s).readerErrors = s.readerErrors ∧ (refreshTare x0 s).gates = s.gates ∧
    (refreshTare x0 s).plat = s.plat ∧ (refreshTare x0 s).alloc = s.alloc ∧ (refreshTare x0 s).tickets = s.tickets ∧
    (refreshTare x0 s).time = s.time ∧ (refreshTare x0 s).watch = s.watch ∧ (refreshTare x0 s).link = s.link ∧
    (refreshTare x0 s).settings = s.settings ∧ (refreshTare x0 s).freeCount = s.freeCount ∧
    (refreshTare x0 s).pending = s.pending := by
  unfold refreshTare
  (try dsimp only); (repeat' split) <;> (try simp) <;> (try simp_all)

@[simp] theorem takeTicket_frame (x0 : Nat) (s : State) :
    (takeTicket x0 s).part = s.part ∧ (takeTicket x0 s).intakes = s.intakes ∧ (takeTicket x0 s).sync = s.sync ∧
    (takeTicket x0 s).chains = s.chains ∧ (takeTicket x0 s).nextCapture = s.nextCapture ∧
    (takeTicket x0 s).inputs = s.inputs ∧ (takeTicket x0 s).drives = s.drives ∧ (takeTicket x0 s).beacons = s.beacons ∧
    (takeTicket x0 s).bars = s.bars ∧ (takeTicket x0 s).recent = s.recent ∧
    (takeTicket x0 s).readerErrors = s.readerErrors ∧ (takeTicket x0 s).gates = s.gates ∧ (takeTicket x0 s).plat = s.plat ∧
    (takeTicket x0 s).alloc = s.alloc ∧ (takeTicket x0 s).tables = s.tables ∧ (takeTicket x0 s).time = s.time ∧
    (takeTicket x0 s).watch = s.watch ∧ (takeTicket x0 s).link = s.link ∧ (takeTicket x0 s).settings = s.settings ∧
    (takeTicket x0 s).freeCount = s.freeCount ∧ (takeTicket x0 s).pending = s.pending := by
  unfold takeTicket
  (try dsimp only); (repeat' split) <;> (try simp) <;> (try simp_all)

@[simp] theorem appendEntry_frame (x0 : Nat) (x1 : EntryKind) (s : State) :
    (appendEntry x0 x1 s).part = s.part ∧ (appendEntry x0 x1 s).intakes = s.intakes ∧ (appendEntry x0 x1 s).sync = s.sync ∧
    (appendEntry x0 x1 s).chains = s.chains ∧ (appendEntry x0 x1 s).nextCapture = s.nextCapture ∧
    (appendEntry x0 x1 s).inputs = s.inputs ∧ (appendEntry x0 x1 s).drives = s.drives ∧
    (appendEntry x0 x1 s).beacons = s.beacons ∧ (appendEntry x0 x1 s).bars = s.bars ∧
    (appendEntry x0 x1 s).recent = s.recent ∧ (appendEntry x0 x1 s).readerErrors = s.readerErrors ∧
    (appendEntry x0 x1 s).gates = s.gates ∧ (appendEntry x0 x1 s).plat = s.plat ∧ (appendEntry x0 x1 s).alloc = s.alloc ∧
    (appendEntry x0 x1 s).tables = s.tables ∧ (appendEntry x0 x1 s).visits = s.visits ∧
    (appendEntry x0 x1 s).time = s.time ∧ (appendEntry x0 x1 s).watch = s.watch ∧
    (appendEntry x0 x1 s).settings = s.settings ∧ (appendEntry x0 x1 s).freeCount = s.freeCount ∧
    (appendEntry x0 x1 s).pending = s.pending := by
  unfold appendEntry
  (try dsimp only); (repeat' split) <;> (try simp) <;> (try simp_all)

@[simp] theorem startPrinting_frame (x0 : Printer) (s : State) :
    (startPrinting x0 s).part = s.part ∧ (startPrinting x0 s).intakes = s.intakes ∧ (startPrinting x0 s).sync = s.sync ∧
    (startPrinting x0 s).chains = s.chains ∧ (startPrinting x0 s).nextCapture = s.nextCapture ∧
    (startPrinting x0 s).inputs = s.inputs ∧ (startPrinting x0 s).drives = s.drives ∧
    (startPrinting x0 s).beacons = s.beacons ∧ (startPrinting x0 s).bars = s.bars ∧ (startPrinting x0 s).recent = s.recent ∧
    (startPrinting x0 s).readerErrors = s.readerErrors ∧ (startPrinting x0 s).gates = s.gates ∧
    (startPrinting x0 s).plat = s.plat ∧ (startPrinting x0 s).alloc = s.alloc ∧ (startPrinting x0 s).tables = s.tables ∧
    (startPrinting x0 s).visits = s.visits ∧ (startPrinting x0 s).time = s.time ∧ (startPrinting x0 s).watch = s.watch ∧
    (startPrinting x0 s).link = s.link ∧ (startPrinting x0 s).settings = s.settings ∧
    (startPrinting x0 s).freeCount = s.freeCount ∧ (startPrinting x0 s).pending = s.pending := by
  unfold startPrinting
  (try dsimp only); (repeat' split) <;> (try simp) <;> (try simp_all)

@[simp] theorem queueTicket_frame (x0 : Printer) (x1 : JournalEntry) (x2 : Bool) (s : State) :
    (queueTicket x0 x1 x2 s).part = s.part ∧ (queueTicket x0 x1 x2 s).intakes = s.intakes ∧
    (queueTicket x0 x1 x2 s).sync = s.sync ∧ (queueTicket x0 x1 x2 s).chains = s.chains ∧
    (queueTicket x0 x1 x2 s).nextCapture = s.nextCapture ∧ (queueTicket x0 x1 x2 s).inputs = s.inputs ∧
    (queueTicket x0 x1 x2 s).drives = s.drives ∧ (queueTicket x0 x1 x2 s).beacons = s.beacons ∧
    (queueTicket x0 x1 x2 s).bars = s.bars ∧ (queueTicket x0 x1 x2 s).recent = s.recent ∧
    (queueTicket x0 x1 x2 s).readerErrors = s.readerErrors ∧ (queueTicket x0 x1 x2 s).gates = s.gates ∧
    (queueTicket x0 x1 x2 s).plat = s.plat ∧ (queueTicket x0 x1 x2 s).alloc = s.alloc ∧
    (queueTicket x0 x1 x2 s).tables = s.tables ∧ (queueTicket x0 x1 x2 s).visits = s.visits ∧
    (queueTicket x0 x1 x2 s).time = s.time ∧ (queueTicket x0 x1 x2 s).watch = s.watch ∧
    (queueTicket x0 x1 x2 s).link = s.link ∧ (queueTicket x0 x1 x2 s).settings = s.settings ∧
    (queueTicket x0 x1 x2 s).freeCount = s.freeCount ∧ (queueTicket x0 x1 x2 s).pending = s.pending := by
  unfold queueTicket
  (try dsimp only); (repeat' split) <;> (try simp) <;> (try simp_all)

@[simp] theorem printerNotice_frame (x0 : Printer) (s : State) :
    (printerNotice x0 s).part = s.part ∧ (printerNotice x0 s).intakes = s.intakes ∧ (printerNotice x0 s).sync = s.sync ∧
    (printerNotice x0 s).chains = s.chains ∧ (printerNotice x0 s).nextCapture = s.nextCapture ∧
    (printerNotice x0 s).inputs = s.inputs ∧ (printerNotice x0 s).drives = s.drives ∧
    (printerNotice x0 s).beacons = s.beacons ∧ (printerNotice x0 s).bars = s.bars ∧ (printerNotice x0 s).recent = s.recent ∧
    (printerNotice x0 s).readerErrors = s.readerErrors ∧ (printerNotice x0 s).gates = s.gates ∧
    (printerNotice x0 s).plat = s.plat ∧ (printerNotice x0 s).alloc = s.alloc ∧ (printerNotice x0 s).tables = s.tables ∧
    (printerNotice x0 s).visits = s.visits ∧ (printerNotice x0 s).tickets = s.tickets ∧ (printerNotice x0 s).time = s.time ∧
    (printerNotice x0 s).watch = s.watch ∧ (printerNotice x0 s).settings = s.settings ∧
    (printerNotice x0 s).freeCount = s.freeCount ∧ (printerNotice x0 s).pending = s.pending := by
  unfold printerNotice
  (try dsimp only); (repeat' split) <;> (try simp) <;> (try simp_all)

@[simp] theorem printerStop_frame (x0 : Printer) (x1 : PrinterState) (s : State) :
    (printerStop x0 x1 s).part = s.part ∧ (printerStop x0 x1 s).intakes = s.intakes ∧ (printerStop x0 x1 s).sync = s.sync ∧
    (printerStop x0 x1 s).chains = s.chains ∧ (printerStop x0 x1 s).nextCapture = s.nextCapture ∧
    (printerStop x0 x1 s).inputs = s.inputs ∧ (printerStop x0 x1 s).drives = s.drives ∧
    (printerStop x0 x1 s).beacons = s.beacons ∧ (printerStop x0 x1 s).bars = s.bars ∧
    (printerStop x0 x1 s).recent = s.recent ∧ (printerStop x0 x1 s).readerErrors = s.readerErrors ∧
    (printerStop x0 x1 s).gates = s.gates ∧ (printerStop x0 x1 s).plat = s.plat ∧ (printerStop x0 x1 s).alloc = s.alloc ∧
    (printerStop x0 x1 s).tables = s.tables ∧ (printerStop x0 x1 s).visits = s.visits ∧
    (printerStop x0 x1 s).time = s.time ∧ (printerStop x0 x1 s).watch = s.watch ∧
    (printerStop x0 x1 s).settings = s.settings ∧ (printerStop x0 x1 s).freeCount = s.freeCount ∧
    (printerStop x0 x1 s).pending = s.pending := by
  unfold printerStop
  (try dsimp only); (repeat' split) <;> (try simp) <;> (try simp_all)

@[simp] theorem printerResume_frame (x0 : Printer) (s : State) :
    (printerResume x0 s).part = s.part ∧ (printerResume x0 s).intakes = s.intakes ∧ (printerResume x0 s).sync = s.sync ∧
    (printerResume x0 s).chains = s.chains ∧ (printerResume x0 s).nextCapture = s.nextCapture ∧
    (printerResume x0 s).inputs = s.inputs ∧ (printerResume x0 s).drives = s.drives ∧
    (printerResume x0 s).beacons = s.beacons ∧ (printerResume x0 s).bars = s.bars ∧ (printerResume x0 s).recent = s.recent ∧
    (printerResume x0 s).readerErrors = s.readerErrors ∧ (printerResume x0 s).gates = s.gates ∧
    (printerResume x0 s).plat = s.plat ∧ (printerResume x0 s).alloc = s.alloc ∧ (printerResume x0 s).tables = s.tables ∧
    (printerResume x0 s).visits = s.visits ∧ (printerResume x0 s).time = s.time ∧ (printerResume x0 s).watch = s.watch ∧
    (printerResume x0 s).settings = s.settings ∧ (printerResume x0 s).freeCount = s.freeCount ∧
    (printerResume x0 s).pending = s.pending := by
  unfold printerResume
  (try dsimp only); (repeat' split) <;> (try simp) <;> (try simp_all)

@[simp] theorem restartFilter_frame (x0 : Platform) (s : State) :
    (restartFilter x0 s).part = s.part ∧ (restartFilter x0 s).intakes = s.intakes ∧ (restartFilter x0 s).sync = s.sync ∧
    (restartFilter x0 s).nextCapture = s.nextCapture ∧ (restartFilter x0 s).inputs = s.inputs ∧
    (restartFilter x0 s).drives = s.drives ∧ (restartFilter x0 s).beacons = s.beacons ∧ (restartFilter x0 s).bars = s.bars ∧
    (restartFilter x0 s).recent = s.recent ∧ (restartFilter x0 s).readerErrors = s.readerErrors ∧
    (restartFilter x0 s).gates = s.gates ∧ (restartFilter x0 s).plat = s.plat ∧ (restartFilter x0 s).alloc = s.alloc ∧
    (restartFilter x0 s).tables = s.tables ∧ (restartFilter x0 s).visits = s.visits ∧
    (restartFilter x0 s).tickets = s.tickets ∧ (restartFilter x0 s).time = s.time ∧ (restartFilter x0 s).watch = s.watch ∧
    (restartFilter x0 s).link = s.link ∧ (restartFilter x0 s).settings = s.settings ∧
    (restartFilter x0 s).freeCount = s.freeCount ∧ (restartFilter x0 s).pending = s.pending := by
  unfold restartFilter
  (try dsimp only); (repeat' split) <;> (try simp) <;> (try simp_all)

@[simp] theorem restartFilters_frame (s : State) :
    (restartFilters s).part = s.part ∧ (restartFilters s).intakes = s.intakes ∧ (restartFilters s).sync = s.sync ∧
    (restartFilters s).nextCapture = s.nextCapture ∧ (restartFilters s).inputs = s.inputs ∧
    (restartFilters s).drives = s.drives ∧ (restartFilters s).beacons = s.beacons ∧ (restartFilters s).bars = s.bars ∧
    (restartFilters s).recent = s.recent ∧ (restartFilters s).readerErrors = s.readerErrors ∧
    (restartFilters s).gates = s.gates ∧ (restartFilters s).plat = s.plat ∧ (restartFilters s).alloc = s.alloc ∧
    (restartFilters s).tables = s.tables ∧ (restartFilters s).visits = s.visits ∧ (restartFilters s).tickets = s.tickets ∧
    (restartFilters s).time = s.time ∧ (restartFilters s).watch = s.watch ∧ (restartFilters s).link = s.link ∧
    (restartFilters s).settings = s.settings ∧ (restartFilters s).freeCount = s.freeCount ∧
    (restartFilters s).pending = s.pending := by
  cases h : s.plat.mode <;> simp [restartFilters, Mode.platforms, h]

@[simp] theorem openCapture_frame (x0 : Platform) (s : State) :
    (openCapture x0 s).part = s.part ∧ (openCapture x0 s).intakes = s.intakes ∧ (openCapture x0 s).sync = s.sync ∧
    (openCapture x0 s).nextCapture = s.nextCapture ∧ (openCapture x0 s).inputs = s.inputs ∧
    (openCapture x0 s).drives = s.drives ∧ (openCapture x0 s).beacons = s.beacons ∧ (openCapture x0 s).bars = s.bars ∧
    (openCapture x0 s).recent = s.recent ∧ (openCapture x0 s).readerErrors = s.readerErrors ∧
    (openCapture x0 s).gates = s.gates ∧ (openCapture x0 s).plat = s.plat ∧ (openCapture x0 s).alloc = s.alloc ∧
    (openCapture x0 s).tables = s.tables ∧ (openCapture x0 s).visits = s.visits ∧ (openCapture x0 s).tickets = s.tickets ∧
    (openCapture x0 s).time = s.time ∧ (openCapture x0 s).watch = s.watch ∧ (openCapture x0 s).link = s.link ∧
    (openCapture x0 s).settings = s.settings ∧ (openCapture x0 s).freeCount = s.freeCount ∧
    (openCapture x0 s).pending = s.pending := by
  unfold openCapture
  (try dsimp only); (repeat' split) <;> (try simp) <;> (try simp_all)

@[simp] theorem cancelCapture_frame (x0 : Platform) (s : State) :
    (cancelCapture x0 s).part = s.part ∧ (cancelCapture x0 s).intakes = s.intakes ∧ (cancelCapture x0 s).sync = s.sync ∧
    (cancelCapture x0 s).nextCapture = s.nextCapture ∧ (cancelCapture x0 s).inputs = s.inputs ∧
    (cancelCapture x0 s).drives = s.drives ∧ (cancelCapture x0 s).beacons = s.beacons ∧ (cancelCapture x0 s).bars = s.bars ∧
    (cancelCapture x0 s).recent = s.recent ∧ (cancelCapture x0 s).readerErrors = s.readerErrors ∧
    (cancelCapture x0 s).gates = s.gates ∧ (cancelCapture x0 s).plat = s.plat ∧ (cancelCapture x0 s).alloc = s.alloc ∧
    (cancelCapture x0 s).tables = s.tables ∧ (cancelCapture x0 s).visits = s.visits ∧
    (cancelCapture x0 s).tickets = s.tickets ∧ (cancelCapture x0 s).time = s.time ∧ (cancelCapture x0 s).watch = s.watch ∧
    (cancelCapture x0 s).link = s.link ∧ (cancelCapture x0 s).settings = s.settings ∧
    (cancelCapture x0 s).freeCount = s.freeCount ∧ (cancelCapture x0 s).pending = s.pending := by
  unfold cancelCapture
  (try dsimp only); (repeat' split) <;> (try simp) <;> (try simp_all)

@[simp] theorem refillStart_frame (s : State) :
    (refillStart s).part = s.part ∧ (refillStart s).nextCapture = s.nextCapture ∧ (refillStart s).inputs = s.inputs ∧
    (refillStart s).drives = s.drives ∧ (refillStart s).beacons = s.beacons ∧ (refillStart s).bars = s.bars ∧
    (refillStart s).recent = s.recent ∧ (refillStart s).readerErrors = s.readerErrors ∧ (refillStart s).gates = s.gates ∧
    (refillStart s).plat = s.plat ∧ (refillStart s).alloc = s.alloc ∧ (refillStart s).tables = s.tables ∧
    (refillStart s).visits = s.visits ∧ (refillStart s).tickets = s.tickets ∧ (refillStart s).time = s.time ∧
    (refillStart s).watch = s.watch ∧ (refillStart s).link = s.link ∧ (refillStart s).settings = s.settings ∧
    (refillStart s).freeCount = s.freeCount ∧ (refillStart s).pending = s.pending := by
  unfold refillStart
  (try dsimp only); (repeat' split) <;> (try simp) <;> (try simp_all)

@[simp] theorem blankResult_frame (x0 : Platform) (s : State) :
    (blankResult x0 s).part = s.part ∧ (blankResult x0 s).intakes = s.intakes ∧ (blankResult x0 s).sync = s.sync ∧
    (blankResult x0 s).nextCapture = s.nextCapture ∧ (blankResult x0 s).inputs = s.inputs ∧
    (blankResult x0 s).drives = s.drives ∧ (blankResult x0 s).beacons = s.beacons ∧ (blankResult x0 s).bars = s.bars ∧
    (blankResult x0 s).recent = s.recent ∧ (blankResult x0 s).readerErrors = s.readerErrors ∧
    (blankResult x0 s).gates = s.gates ∧ (blankResult x0 s).plat = s.plat ∧ (blankResult x0 s).alloc = s.alloc ∧
    (blankResult x0 s).tables = s.tables ∧ (blankResult x0 s).visits = s.visits ∧ (blankResult x0 s).tickets = s.tickets ∧
    (blankResult x0 s).time = s.time ∧ (blankResult x0 s).watch = s.watch ∧ (blankResult x0 s).link = s.link ∧
    (blankResult x0 s).settings = s.settings ∧ (blankResult x0 s).freeCount = s.freeCount ∧
    (blankResult x0 s).pending = s.pending := by
  unfold blankResult
  (try dsimp only); (repeat' split) <;> (try simp) <;> (try simp_all)

end Sys2Proof.Machine
end

