-- ==== Sys2Proof/Laws/FramesVisits.lean ====
section
/-! SUPPORT. Frames: the parts of the state that each operation leaves as they are, for the platform and visit transitions. -/

set_option linter.unusedTactic false
set_option linter.unreachableTactic false
set_option linter.unnecessarySeqFocus false

namespace Sys2Proof.Machine

@[simp] theorem enterHold_frame (x0 : Platform) (x1 : HoldReason) (x2 : ResumePoint) (s : State) :
    (enterHold x0 x1 x2 s).part = s.part ∧ (enterHold x0 x1 x2 s).intakes = s.intakes ∧
    (enterHold x0 x1 x2 s).sync = s.sync ∧ (enterHold x0 x1 x2 s).chains = s.chains ∧
    (enterHold x0 x1 x2 s).nextCapture = s.nextCapture ∧ (enterHold x0 x1 x2 s).inputs = s.inputs ∧
    (enterHold x0 x1 x2 s).recent = s.recent ∧ (enterHold x0 x1 x2 s).readerErrors = s.readerErrors ∧
    (enterHold x0 x1 x2 s).gates = s.gates ∧ (enterHold x0 x1 x2 s).alloc = s.alloc ∧
    (enterHold x0 x1 x2 s).tables = s.tables ∧ (enterHold x0 x1 x2 s).visits = s.visits ∧
    (enterHold x0 x1 x2 s).tickets = s.tickets ∧ (enterHold x0 x1 x2 s).time = s.time ∧
    (enterHold x0 x1 x2 s).watch = s.watch ∧ (enterHold x0 x1 x2 s).settings = s.settings ∧
    (enterHold x0 x1 x2 s).freeCount = s.freeCount ∧ (enterHold x0 x1 x2 s).pending = s.pending := by
  unfold enterHold
  (try dsimp only); (repeat' split) <;> (try simp) <;> (try simp_all)

@[simp] theorem release_frame (x0 : Platform) (x1 : ExitOutcome) (s : State) :
    (release x0 x1 s).part = s.part ∧ (release x0 x1 s).intakes = s.intakes ∧ (release x0 x1 s).sync = s.sync ∧
    (release x0 x1 s).chains = s.chains ∧ (release x0 x1 s).nextCapture = s.nextCapture ∧
    (release x0 x1 s).inputs = s.inputs ∧ (release x0 x1 s).recent = s.recent ∧
    (release x0 x1 s).readerErrors = s.readerErrors ∧ (release x0 x1 s).gates = s.gates ∧
    (release x0 x1 s).alloc = s.alloc ∧ (release x0 x1 s).tables = s.tables ∧ (release x0 x1 s).visits = s.visits ∧
    (release x0 x1 s).tickets = s.tickets ∧ (release x0 x1 s).time = s.time ∧ (release x0 x1 s).watch = s.watch ∧
    (release x0 x1 s).settings = s.settings ∧ (release x0 x1 s).freeCount = s.freeCount ∧
    (release x0 x1 s).pending = s.pending := by
  unfold release
  (try dsimp only); (repeat' split) <;> (try simp) <;> (try simp_all)

@[simp] theorem exitRelease_frame (x0 : Platform) (x1 : ExitOutcome) (s : State) :
    (exitRelease x0 x1 s).part = s.part ∧ (exitRelease x0 x1 s).intakes = s.intakes ∧ (exitRelease x0 x1 s).sync = s.sync ∧
    (exitRelease x0 x1 s).chains = s.chains ∧ (exitRelease x0 x1 s).nextCapture = s.nextCapture ∧
    (exitRelease x0 x1 s).inputs = s.inputs ∧ (exitRelease x0 x1 s).recent = s.recent ∧
    (exitRelease x0 x1 s).readerErrors = s.readerErrors ∧ (exitRelease x0 x1 s).gates = s.gates ∧
    (exitRelease x0 x1 s).alloc = s.alloc ∧ (exitRelease x0 x1 s).tables = s.tables ∧
    (exitRelease x0 x1 s).visits = s.visits ∧ (exitRelease x0 x1 s).tickets = s.tickets ∧
    (exitRelease x0 x1 s).time = s.time ∧ (exitRelease x0 x1 s).watch = s.watch ∧
    (exitRelease x0 x1 s).settings = s.settings ∧ (exitRelease x0 x1 s).freeCount = s.freeCount ∧
    (exitRelease x0 x1 s).pending = s.pending := by
  unfold exitRelease
  (try dsimp only); (repeat' split) <;> (try simp) <;> (try simp_all)

@[simp] theorem positioningTest_frame (x0 : Platform) (s : State) :
    (positioningTest x0 s).part = s.part ∧ (positioningTest x0 s).intakes = s.intakes ∧
    (positioningTest x0 s).sync = s.sync ∧ (positioningTest x0 s).nextCapture = s.nextCapture ∧
    (positioningTest x0 s).inputs = s.inputs ∧ (positioningTest x0 s).drives = s.drives ∧
    (positioningTest x0 s).bars = s.bars ∧ (positioningTest x0 s).recent = s.recent ∧
    (positioningTest x0 s).readerErrors = s.readerErrors ∧ (positioningTest x0 s).gates = s.gates ∧
    (positioningTest x0 s).alloc = s.alloc ∧ (positioningTest x0 s).tables = s.tables ∧
    (positioningTest x0 s).visits = s.visits ∧ (positioningTest x0 s).tickets = s.tickets ∧
    (positioningTest x0 s).time = s.time ∧ (positioningTest x0 s).watch = s.watch ∧ (positioningTest x0 s).link = s.link ∧
    (positioningTest x0 s).settings = s.settings ∧ (positioningTest x0 s).freeCount = s.freeCount ∧
    (positioningTest x0 s).pending = s.pending := by
  unfold positioningTest
  (try dsimp only); (repeat' split) <;> (try simp) <;> (try simp_all)

@[simp] theorem enterPositioning_frame (x0 : Platform) (s : State) :
    (enterPositioning x0 s).part = s.part ∧ (enterPositioning x0 s).intakes = s.intakes ∧
    (enterPositioning x0 s).sync = s.sync ∧ (enterPositioning x0 s).nextCapture = s.nextCapture ∧
    (enterPositioning x0 s).inputs = s.inputs ∧ (enterPositioning x0 s).drives = s.drives ∧
    (enterPositioning x0 s).bars = s.bars ∧ (enterPositioning x0 s).recent = s.recent ∧
    (enterPositioning x0 s).readerErrors = s.readerErrors ∧ (enterPositioning x0 s).gates = s.gates ∧
    (enterPositioning x0 s).alloc = s.alloc ∧ (enterPositioning x0 s).tables = s.tables ∧
    (enterPositioning x0 s).visits = s.visits ∧ (enterPositioning x0 s).tickets = s.tickets ∧
    (enterPositioning x0 s).time = s.time ∧ (enterPositioning x0 s).watch = s.watch ∧
    (enterPositioning x0 s).link = s.link ∧ (enterPositioning x0 s).settings = s.settings ∧
    (enterPositioning x0 s).freeCount = s.freeCount ∧ (enterPositioning x0 s).pending = s.pending := by
  unfold enterPositioning
  (try dsimp only); (repeat' split) <;> (try simp) <;> (try simp_all)

@[simp] theorem returnToPositioning_frame (x0 : Platform) (s : State) :
    (returnToPositioning x0 s).part = s.part ∧ (returnToPositioning x0 s).intakes = s.intakes ∧
    (returnToPositioning x0 s).sync = s.sync ∧ (returnToPositioning x0 s).nextCapture = s.nextCapture ∧
    (returnToPositioning x0 s).inputs = s.inputs ∧ (returnToPositioning x0 s).drives = s.drives ∧
    (returnToPositioning x0 s).bars = s.bars ∧ (returnToPositioning x0 s).recent = s.recent ∧
    (returnToPositioning x0 s).readerErrors = s.readerErrors ∧ (returnToPositioning x0 s).gates = s.gates ∧
    (returnToPositioning x0 s).alloc = s.alloc ∧ (returnToPositioning x0 s).tables = s.tables ∧
    (returnToPositioning x0 s).visits = s.visits ∧ (returnToPositioning x0 s).tickets = s.tickets ∧
    (returnToPositioning x0 s).time = s.time ∧ (returnToPositioning x0 s).watch = s.watch ∧
    (returnToPositioning x0 s).link = s.link ∧ (returnToPositioning x0 s).settings = s.settings ∧
    (returnToPositioning x0 s).freeCount = s.freeCount ∧ (returnToPositioning x0 s).pending = s.pending := by
  unfold returnToPositioning
  (try dsimp only); (repeat' split) <;> (try simp) <;> (try simp_all)

@[simp] theorem toAwaiting_frame (x0 : Platform) (s : State) :
    (toAwaiting x0 s).part = s.part ∧ (toAwaiting x0 s).intakes = s.intakes ∧ (toAwaiting x0 s).sync = s.sync ∧
    (toAwaiting x0 s).chains = s.chains ∧ (toAwaiting x0 s).nextCapture = s.nextCapture ∧
    (toAwaiting x0 s).inputs = s.inputs ∧ (toAwaiting x0 s).drives = s.drives ∧ (toAwaiting x0 s).bars = s.bars ∧
    (toAwaiting x0 s).recent = s.recent ∧ (toAwaiting x0 s).readerErrors = s.readerErrors ∧
    (toAwaiting x0 s).gates = s.gates ∧ (toAwaiting x0 s).alloc = s.alloc ∧ (toAwaiting x0 s).tables = s.tables ∧
    (toAwaiting x0 s).visits = s.visits ∧ (toAwaiting x0 s).tickets = s.tickets ∧ (toAwaiting x0 s).time = s.time ∧
    (toAwaiting x0 s).watch = s.watch ∧ (toAwaiting x0 s).link = s.link ∧ (toAwaiting x0 s).settings = s.settings ∧
    (toAwaiting x0 s).freeCount = s.freeCount ∧ (toAwaiting x0 s).pending = s.pending := by
  unfold toAwaiting
  (try dsimp only); (repeat' split) <;> (try simp) <;> (try simp_all)

@[simp] theorem freePlatform_frame (x0 : Platform) (s : State) :
    (freePlatform x0 s).part = s.part ∧ (freePlatform x0 s).intakes = s.intakes ∧ (freePlatform x0 s).sync = s.sync ∧
    (freePlatform x0 s).chains = s.chains ∧ (freePlatform x0 s).nextCapture = s.nextCapture ∧
    (freePlatform x0 s).inputs = s.inputs ∧ (freePlatform x0 s).drives = s.drives ∧ (freePlatform x0 s).bars = s.bars ∧
    (freePlatform x0 s).recent = s.recent ∧ (freePlatform x0 s).readerErrors = s.readerErrors ∧
    (freePlatform x0 s).gates = s.gates ∧ (freePlatform x0 s).alloc = s.alloc ∧ (freePlatform x0 s).tables = s.tables ∧
    (freePlatform x0 s).visits = s.visits ∧ (freePlatform x0 s).tickets = s.tickets ∧ (freePlatform x0 s).time = s.time ∧
    (freePlatform x0 s).watch = s.watch ∧ (freePlatform x0 s).link = s.link ∧ (freePlatform x0 s).settings = s.settings ∧
    (freePlatform x0 s).freeCount = s.freeCount ∧ (freePlatform x0 s).pending = s.pending := by
  unfold freePlatform
  (try dsimp only); (repeat' split) <;> (try simp) <;> (try simp_all)

@[simp] theorem visitLeftDeck_frame (x0 : Nat) (x1 : ExitOutcome) (s : State) :
    (visitLeftDeck x0 x1 s).part = s.part ∧ (visitLeftDeck x0 x1 s).intakes = s.intakes ∧
    (visitLeftDeck x0 x1 s).sync = s.sync ∧ (visitLeftDeck x0 x1 s).chains = s.chains ∧
    (visitLeftDeck x0 x1 s).nextCapture = s.nextCapture ∧ (visitLeftDeck x0 x1 s).inputs = s.inputs ∧
    (visitLeftDeck x0 x1 s).drives = s.drives ∧ (visitLeftDeck x0 x1 s).beacons = s.beacons ∧
    (visitLeftDeck x0 x1 s).bars = s.bars ∧ (visitLeftDeck x0 x1 s).recent = s.recent ∧
    (visitLeftDeck x0 x1 s).readerErrors = s.readerErrors ∧ (visitLeftDeck x0 x1 s).gates = s.gates ∧
    (visitLeftDeck x0 x1 s).plat = s.plat ∧ (visitLeftDeck x0 x1 s).tables = s.tables ∧
    (visitLeftDeck x0 x1 s).tickets = s.tickets ∧ (visitLeftDeck x0 x1 s).time = s.time ∧
    (visitLeftDeck x0 x1 s).watch = s.watch ∧ (visitLeftDeck x0 x1 s).settings = s.settings ∧
    (visitLeftDeck x0 x1 s).freeCount = s.freeCount ∧ (visitLeftDeck x0 x1 s).pending = s.pending := by
  unfold visitLeftDeck
  (try dsimp only); (repeat' split) <;> (try simp) <;> (try simp_all)

@[simp] theorem leftDeck_frame (x0 : Platform) (s : State) :
    (leftDeck x0 s).part = s.part ∧ (leftDeck x0 s).intakes = s.intakes ∧ (leftDeck x0 s).sync = s.sync ∧
    (leftDeck x0 s).chains = s.chains ∧ (leftDeck x0 s).nextCapture = s.nextCapture ∧ (leftDeck x0 s).inputs = s.inputs ∧
    (leftDeck x0 s).drives = s.drives ∧ (leftDeck x0 s).bars = s.bars ∧ (leftDeck x0 s).recent = s.recent ∧
    (leftDeck x0 s).readerErrors = s.readerErrors ∧ (leftDeck x0 s).gates = s.gates ∧ (leftDeck x0 s).tables = s.tables ∧
    (leftDeck x0 s).tickets = s.tickets ∧ (leftDeck x0 s).time = s.time ∧ (leftDeck x0 s).watch = s.watch ∧
    (leftDeck x0 s).settings = s.settings ∧ (leftDeck x0 s).freeCount = s.freeCount ∧
    (leftDeck x0 s).pending = s.pending := by
  unfold leftDeck
  (try dsimp only); (repeat' split) <;> (try simp) <;> (try simp_all)

@[simp] theorem noShow_frame (x0 : Nat) (s : State) :
    (noShow x0 s).part = s.part ∧ (noShow x0 s).intakes = s.intakes ∧ (noShow x0 s).sync = s.sync ∧
    (noShow x0 s).chains = s.chains ∧ (noShow x0 s).nextCapture = s.nextCapture ∧ (noShow x0 s).inputs = s.inputs ∧
    (noShow x0 s).drives = s.drives ∧ (noShow x0 s).beacons = s.beacons ∧ (noShow x0 s).bars = s.bars ∧
    (noShow x0 s).recent = s.recent ∧ (noShow x0 s).readerErrors = s.readerErrors ∧ (noShow x0 s).gates = s.gates ∧
    (noShow x0 s).plat = s.plat ∧ (noShow x0 s).tables = s.tables ∧ (noShow x0 s).tickets = s.tickets ∧
    (noShow x0 s).time = s.time ∧ (noShow x0 s).watch = s.watch ∧ (noShow x0 s).settings = s.settings ∧
    (noShow x0 s).freeCount = s.freeCount ∧ (noShow x0 s).pending = s.pending := by
  unfold noShow
  (try dsimp only); (repeat' split) <;> (try simp) <;> (try simp_all)

@[simp] theorem settleVisit_frame (x0 : Nat) (x1 : Nat) (s : State) :
    (settleVisit x0 x1 s).part = s.part ∧ (settleVisit x0 x1 s).intakes = s.intakes ∧ (settleVisit x0 x1 s).sync = s.sync ∧
    (settleVisit x0 x1 s).chains = s.chains ∧ (settleVisit x0 x1 s).nextCapture = s.nextCapture ∧
    (settleVisit x0 x1 s).inputs = s.inputs ∧ (settleVisit x0 x1 s).drives = s.drives ∧
    (settleVisit x0 x1 s).beacons = s.beacons ∧ (settleVisit x0 x1 s).bars = s.bars ∧
    (settleVisit x0 x1 s).recent = s.recent ∧ (settleVisit x0 x1 s).readerErrors = s.readerErrors ∧
    (settleVisit x0 x1 s).gates = s.gates ∧ (settleVisit x0 x1 s).plat = s.plat ∧ (settleVisit x0 x1 s).alloc = s.alloc ∧
    (settleVisit x0 x1 s).visits = s.visits ∧ (settleVisit x0 x1 s).tickets = s.tickets ∧
    (settleVisit x0 x1 s).time = s.time ∧ (settleVisit x0 x1 s).watch = s.watch ∧ (settleVisit x0 x1 s).link = s.link ∧
    (settleVisit x0 x1 s).settings = s.settings ∧ (settleVisit x0 x1 s).freeCount = s.freeCount ∧
    (settleVisit x0 x1 s).pending = s.pending := by
  unfold settleVisit
  (try dsimp only); (repeat' split) <;> (try simp) <;> (try simp_all)

@[simp] theorem queueNewest_frame (x0 : Printer) (s : State) :
    (queueNewest x0 s).part = s.part ∧ (queueNewest x0 s).intakes = s.intakes ∧ (queueNewest x0 s).sync = s.sync ∧
    (queueNewest x0 s).chains = s.chains ∧ (queueNewest x0 s).nextCapture = s.nextCapture ∧
    (queueNewest x0 s).inputs = s.inputs ∧ (queueNewest x0 s).drives = s.drives ∧ (queueNewest x0 s).beacons = s.beacons ∧
    (queueNewest x0 s).bars = s.bars ∧ (queueNewest x0 s).recent = s.recent ∧
    (queueNewest x0 s).readerErrors = s.readerErrors ∧ (queueNewest x0 s).gates = s.gates ∧
    (queueNewest x0 s).plat = s.plat ∧ (queueNewest x0 s).alloc = s.alloc ∧ (queueNewest x0 s).tables = s.tables ∧
    (queueNewest x0 s).visits = s.visits ∧ (queueNewest x0 s).time = s.time ∧ (queueNewest x0 s).watch = s.watch ∧
    (queueNewest x0 s).link = s.link ∧ (queueNewest x0 s).settings = s.settings ∧
    (queueNewest x0 s).freeCount = s.freeCount ∧ (queueNewest x0 s).pending = s.pending := by
  unfold queueNewest
  (try dsimp only); (repeat' split) <;> (try simp) <;> (try simp_all)

@[simp] theorem completedNotice_frame (x0 : Nat) (s : State) :
    (completedNotice x0 s).part = s.part ∧ (completedNotice x0 s).intakes = s.intakes ∧
    (completedNotice x0 s).sync = s.sync ∧ (completedNotice x0 s).chains = s.chains ∧
    (completedNotice x0 s).nextCapture = s.nextCapture ∧ (completedNotice x0 s).inputs = s.inputs ∧
    (completedNotice x0 s).drives = s.drives ∧ (completedNotice x0 s).beacons = s.beacons ∧
    (completedNotice x0 s).bars = s.bars ∧ (completedNotice x0 s).recent = s.recent ∧
    (completedNotice x0 s).readerErrors = s.readerErrors ∧ (completedNotice x0 s).gates = s.gates ∧
    (completedNotice x0 s).plat = s.plat ∧ (completedNotice x0 s).alloc = s.alloc ∧
    (completedNotice x0 s).tables = s.tables ∧ (completedNotice x0 s).visits = s.visits ∧
    (completedNotice x0 s).tickets = s.tickets ∧ (completedNotice x0 s).time = s.time ∧
    (completedNotice x0 s).watch = s.watch ∧ (completedNotice x0 s).settings = s.settings ∧
    (completedNotice x0 s).freeCount = s.freeCount ∧ (completedNotice x0 s).pending = s.pending := by
  unfold completedNotice
  (try dsimp only); (repeat' split) <;> (try simp) <;> (try simp_all)

@[simp] theorem proceed_frame (x0 : Nat) (x1 : Platform) (s : State) :
    (proceed x0 x1 s).part = s.part ∧ (proceed x0 x1 s).intakes = s.intakes ∧ (proceed x0 x1 s).sync = s.sync ∧
    (proceed x0 x1 s).chains = s.chains ∧ (proceed x0 x1 s).nextCapture = s.nextCapture ∧
    (proceed x0 x1 s).inputs = s.inputs ∧ (proceed x0 x1 s).recent = s.recent ∧
    (proceed x0 x1 s).readerErrors = s.readerErrors ∧ (proceed x0 x1 s).gates = s.gates ∧
    (proceed x0 x1 s).alloc = s.alloc ∧ (proceed x0 x1 s).time = s.time ∧ (proceed x0 x1 s).watch = s.watch ∧
    (proceed x0 x1 s).settings = s.settings ∧ (proceed x0 x1 s).freeCount = s.freeCount ∧
    (proceed x0 x1 s).pending = s.pending := by
  unfold proceed
  (try dsimp only); (repeat' split) <;> (try simp) <;> (try simp_all)

@[simp] theorem complete_frame (x0 : Nat) (x1 : Platform) (s : State) :
    (complete x0 x1 s).part = s.part ∧ (complete x0 x1 s).intakes = s.intakes ∧ (complete x0 x1 s).sync = s.sync ∧
    (complete x0 x1 s).chains = s.chains ∧ (complete x0 x1 s).nextCapture = s.nextCapture ∧
    (complete x0 x1 s).inputs = s.inputs ∧ (complete x0 x1 s).recent = s.recent ∧
    (complete x0 x1 s).readerErrors = s.readerErrors ∧ (complete x0 x1 s).gates = s.gates ∧
    (complete x0 x1 s).alloc = s.alloc ∧ (complete x0 x1 s).time = s.time ∧ (complete x0 x1 s).watch = s.watch ∧
    (complete x0 x1 s).settings = s.settings ∧ (complete x0 x1 s).freeCount = s.freeCount ∧
    (complete x0 x1 s).pending = s.pending := by
  unfold complete
  (try dsimp only); (repeat' split) <;> (try simp) <;> (try simp_all)

@[simp] theorem voidVisit_frame (x0 : Nat) (s : State) :
    (voidVisit x0 s).part = s.part ∧ (voidVisit x0 s).intakes = s.intakes ∧ (voidVisit x0 s).sync = s.sync ∧
    (voidVisit x0 s).chains = s.chains ∧ (voidVisit x0 s).nextCapture = s.nextCapture ∧ (voidVisit x0 s).inputs = s.inputs ∧
    (voidVisit x0 s).drives = s.drives ∧ (voidVisit x0 s).beacons = s.beacons ∧ (voidVisit x0 s).bars = s.bars ∧
    (voidVisit x0 s).recent = s.recent ∧ (voidVisit x0 s).readerErrors = s.readerErrors ∧ (voidVisit x0 s).gates = s.gates ∧
    (voidVisit x0 s).plat = s.plat ∧ (voidVisit x0 s).alloc = s.alloc ∧ (voidVisit x0 s).time = s.time ∧
    (voidVisit x0 s).watch = s.watch ∧ (voidVisit x0 s).settings = s.settings ∧ (voidVisit x0 s).freeCount = s.freeCount ∧
    (voidVisit x0 s).pending = s.pending := by
  unfold voidVisit
  (try dsimp only); (repeat' split) <;> (try simp) <;> (try simp_all)

@[simp] theorem resumePrintWait_frame (x0 : Printer) (s : State) :
    (resumePrintWait x0 s).part = s.part ∧ (resumePrintWait x0 s).intakes = s.intakes ∧
    (resumePrintWait x0 s).sync = s.sync ∧ (resumePrintWait x0 s).chains = s.chains ∧
    (resumePrintWait x0 s).nextCapture = s.nextCapture ∧ (resumePrintWait x0 s).inputs = s.inputs ∧
    (resumePrintWait x0 s).recent = s.recent ∧ (resumePrintWait x0 s).readerErrors = s.readerErrors ∧
    (resumePrintWait x0 s).gates = s.gates ∧ (resumePrintWait x0 s).alloc = s.alloc ∧ (resumePrintWait x0 s).time = s.time ∧
    (resumePrintWait x0 s).watch = s.watch ∧ (resumePrintWait x0 s).settings = s.settings ∧
    (resumePrintWait x0 s).freeCount = s.freeCount ∧ (resumePrintWait x0 s).pending = s.pending := by
  unfold resumePrintWait
  (try dsimp only); (repeat' split) <;> (try simp) <;> (try simp_all)

@[simp] theorem decideNet_frame (x0 : Nat) (x1 : Platform) (s : State) :
    (decideNet x0 x1 s).part = s.part ∧ (decideNet x0 x1 s).intakes = s.intakes ∧ (decideNet x0 x1 s).sync = s.sync ∧
    (decideNet x0 x1 s).chains = s.chains ∧ (decideNet x0 x1 s).nextCapture = s.nextCapture ∧
    (decideNet x0 x1 s).inputs = s.inputs ∧ (decideNet x0 x1 s).recent = s.recent ∧
    (decideNet x0 x1 s).readerErrors = s.readerErrors ∧ (decideNet x0 x1 s).gates = s.gates ∧
    (decideNet x0 x1 s).alloc = s.alloc ∧ (decideNet x0 x1 s).time = s.time ∧ (decideNet x0 x1 s).watch = s.watch ∧
    (decideNet x0 x1 s).settings = s.settings ∧ (decideNet x0 x1 s).freeCount = s.freeCount ∧
    (decideNet x0 x1 s).pending = s.pending := by
  unfold decideNet
  (try dsimp only); (repeat' split) <;> (try simp) <;> (try simp_all)

@[simp] theorem weighedNotice_frame (x0 : Nat) (x1 : Leg) (x2 : WeighRec) (s : State) :
    (weighedNotice x0 x1 x2 s).part = s.part ∧ (weighedNotice x0 x1 x2 s).intakes = s.intakes ∧
    (weighedNotice x0 x1 x2 s).sync = s.sync ∧ (weighedNotice x0 x1 x2 s).chains = s.chains ∧
    (weighedNotice x0 x1 x2 s).nextCapture = s.nextCapture ∧ (weighedNotice x0 x1 x2 s).inputs = s.inputs ∧
    (weighedNotice x0 x1 x2 s).drives = s.drives ∧ (weighedNotice x0 x1 x2 s).beacons = s.beacons ∧
    (weighedNotice x0 x1 x2 s).bars = s.bars ∧ (weighedNotice x0 x1 x2 s).recent = s.recent ∧
    (weighedNotice x0 x1 x2 s).readerErrors = s.readerErrors ∧ (weighedNotice x0 x1 x2 s).gates = s.gates ∧
    (weighedNotice x0 x1 x2 s).plat = s.plat ∧ (weighedNotice x0 x1 x2 s).alloc = s.alloc ∧
    (weighedNotice x0 x1 x2 s).tables = s.tables ∧ (weighedNotice x0 x1 x2 s).visits = s.visits ∧
    (weighedNotice x0 x1 x2 s).tickets = s.tickets ∧ (weighedNotice x0 x1 x2 s).time = s.time ∧
    (weighedNotice x0 x1 x2 s).watch = s.watch ∧ (weighedNotice x0 x1 x2 s).settings = s.settings ∧
    (weighedNotice x0 x1 x2 s).freeCount = s.freeCount ∧ (weighedNotice x0 x1 x2 s).pending = s.pending := by
  unfold weighedNotice
  (try dsimp only); (repeat' split) <;> (try simp) <;> (try simp_all)

@[simp] theorem deliverWeighing_frame (x0 : Platform) (x1 : WeighRec) (s : State) :
    (deliverWeighing x0 x1 s).part = s.part ∧ (deliverWeighing x0 x1 s).intakes = s.intakes ∧
    (deliverWeighing x0 x1 s).sync = s.sync ∧ (deliverWeighing x0 x1 s).chains = s.chains ∧
    (deliverWeighing x0 x1 s).nextCapture = s.nextCapture ∧ (deliverWeighing x0 x1 s).inputs = s.inputs ∧
    (deliverWeighing x0 x1 s).recent = s.recent ∧ (deliverWeighing x0 x1 s).readerErrors = s.readerErrors ∧
    (deliverWeighing x0 x1 s).gates = s.gates ∧ (deliverWeighing x0 x1 s).alloc = s.alloc ∧
    (deliverWeighing x0 x1 s).time = s.time ∧ (deliverWeighing x0 x1 s).watch = s.watch ∧
    (deliverWeighing x0 x1 s).settings = s.settings ∧ (deliverWeighing x0 x1 s).freeCount = s.freeCount ∧
    (deliverWeighing x0 x1 s).pending = s.pending := by
  unfold deliverWeighing
  (try dsimp only); (repeat' split) <;> (try simp) <;> (try simp_all)

@[simp] theorem takeCall_frame (x0 : Platform) (x1 : Nat) (s : State) :
    (takeCall x0 x1 s).part = s.part ∧ (takeCall x0 x1 s).intakes = s.intakes ∧ (takeCall x0 x1 s).sync = s.sync ∧
    (takeCall x0 x1 s).chains = s.chains ∧ (takeCall x0 x1 s).nextCapture = s.nextCapture ∧
    (takeCall x0 x1 s).inputs = s.inputs ∧ (takeCall x0 x1 s).drives = s.drives ∧ (takeCall x0 x1 s).bars = s.bars ∧
    (takeCall x0 x1 s).recent = s.recent ∧ (takeCall x0 x1 s).readerErrors = s.readerErrors ∧
    (takeCall x0 x1 s).gates = s.gates ∧ (takeCall x0 x1 s).tables = s.tables ∧ (takeCall x0 x1 s).tickets = s.tickets ∧
    (takeCall x0 x1 s).time = s.time ∧ (takeCall x0 x1 s).watch = s.watch ∧ (takeCall x0 x1 s).settings = s.settings ∧
    (takeCall x0 x1 s).freeCount = s.freeCount ∧ (takeCall x0 x1 s).pending = s.pending := by
  unfold takeCall
  (try dsimp only); (repeat' split) <;> (try simp) <;> (try simp_all)

@[simp] theorem callExpiry_frame (x0 : Platform) (s : State) :
    (callExpiry x0 s).part = s.part ∧ (callExpiry x0 s).intakes = s.intakes ∧ (callExpiry x0 s).sync = s.sync ∧
    (callExpiry x0 s).chains = s.chains ∧ (callExpiry x0 s).nextCapture = s.nextCapture ∧
    (callExpiry x0 s).inputs = s.inputs ∧ (callExpiry x0 s).recent = s.recent ∧
    (callExpiry x0 s).readerErrors = s.readerErrors ∧ (callExpiry x0 s).gates = s.gates ∧
    (callExpiry x0 s).tables = s.tables ∧ (callExpiry x0 s).tickets = s.tickets ∧ (callExpiry x0 s).time = s.time ∧
    (callExpiry x0 s).watch = s.watch ∧ (callExpiry x0 s).settings = s.settings ∧
    (callExpiry x0 s).freeCount = s.freeCount ∧ (callExpiry x0 s).pending = s.pending := by
  unfold callExpiry
  (try dsimp only); (repeat' split) <;> (try simp) <;> (try simp_all)

@[simp] theorem vehicleOnDeck_frame (x0 : Platform) (s : State) :
    (vehicleOnDeck x0 s).part = s.part ∧ (vehicleOnDeck x0 s).intakes = s.intakes ∧ (vehicleOnDeck x0 s).sync = s.sync ∧
    (vehicleOnDeck x0 s).chains = s.chains ∧ (vehicleOnDeck x0 s).nextCapture = s.nextCapture ∧
    (vehicleOnDeck x0 s).inputs = s.inputs ∧ (vehicleOnDeck x0 s).drives = s.drives ∧ (vehicleOnDeck x0 s).bars = s.bars ∧
    (vehicleOnDeck x0 s).recent = s.recent ∧ (vehicleOnDeck x0 s).readerErrors = s.readerErrors ∧
    (vehicleOnDeck x0 s).gates = s.gates ∧ (vehicleOnDeck x0 s).alloc = s.alloc ∧ (vehicleOnDeck x0 s).tables = s.tables ∧
    (vehicleOnDeck x0 s).tickets = s.tickets ∧ (vehicleOnDeck x0 s).time = s.time ∧ (vehicleOnDeck x0 s).watch = s.watch ∧
    (vehicleOnDeck x0 s).settings = s.settings ∧ (vehicleOnDeck x0 s).freeCount = s.freeCount ∧
    (vehicleOnDeck x0 s).pending = s.pending := by
  unfold vehicleOnDeck
  (try dsimp only); (repeat' split) <;> (try simp) <;> (try simp_all)

@[simp] theorem askInner_frame (x0 : Mode) (s : State) :
    (askInner x0 s).part = s.part ∧ (askInner x0 s).intakes = s.intakes ∧ (askInner x0 s).sync = s.sync ∧
    (askInner x0 s).chains = s.chains ∧ (askInner x0 s).nextCapture = s.nextCapture ∧ (askInner x0 s).inputs = s.inputs ∧
    (askInner x0 s).beacons = s.beacons ∧ (askInner x0 s).recent = s.recent ∧
    (askInner x0 s).readerErrors = s.readerErrors ∧ (askInner x0 s).gates = s.gates ∧ (askInner x0 s).plat = s.plat ∧
    (askInner x0 s).alloc = s.alloc ∧ (askInner x0 s).tables = s.tables ∧ (askInner x0 s).visits = s.visits ∧
    (askInner x0 s).tickets = s.tickets ∧ (askInner x0 s).time = s.time ∧ (askInner x0 s).watch = s.watch ∧
    (askInner x0 s).link = s.link ∧ (askInner x0 s).settings = s.settings ∧ (askInner x0 s).freeCount = s.freeCount ∧
    (askInner x0 s).pending = s.pending := by
  unfold askInner
  split
  · simp [innerBarriers]
  · simp only [innerBarriers, List.foldl_cons, List.foldl_nil]
    (repeat' split) <;> simp

@[simp] theorem clearRefillMarks_frame (s : State) :
    (clearRefillMarks s).part = s.part ∧ (clearRefillMarks s).sync = s.sync ∧ (clearRefillMarks s).chains = s.chains ∧
    (clearRefillMarks s).nextCapture = s.nextCapture ∧ (clearRefillMarks s).inputs = s.inputs ∧
    (clearRefillMarks s).drives = s.drives ∧ (clearRefillMarks s).beacons = s.beacons ∧ (clearRefillMarks s).bars = s.bars ∧
    (clearRefillMarks s).recent = s.recent ∧ (clearRefillMarks s).readerErrors = s.readerErrors ∧
    (clearRefillMarks s).gates = s.gates ∧ (clearRefillMarks s).plat = s.plat ∧ (clearRefillMarks s).alloc = s.alloc ∧
    (clearRefillMarks s).tables = s.tables ∧ (clearRefillMarks s).visits = s.visits ∧
    (clearRefillMarks s).tickets = s.tickets ∧ (clearRefillMarks s).time = s.time ∧ (clearRefillMarks s).watch = s.watch ∧
    (clearRefillMarks s).link = s.link ∧ (clearRefillMarks s).settings = s.settings ∧
    (clearRefillMarks s).freeCount = s.freeCount ∧ (clearRefillMarks s).pending = s.pending := by
  unfold clearRefillMarks
  (try dsimp only); (repeat' split) <;> (try simp) <;> (try simp_all)

@[simp] theorem completeSwitch_frame (x0 : Mode) (s : State) :
    (completeSwitch x0 s).part = s.part ∧ (completeSwitch x0 s).nextCapture = s.nextCapture ∧
    (completeSwitch x0 s).inputs = s.inputs ∧ (completeSwitch x0 s).drives = s.drives ∧
    (completeSwitch x0 s).bars = s.bars ∧ (completeSwitch x0 s).recent = s.recent ∧
    (completeSwitch x0 s).readerErrors = s.readerErrors ∧ (completeSwitch x0 s).gates = s.gates ∧
    (completeSwitch x0 s).alloc = s.alloc ∧ (completeSwitch x0 s).tables = s.tables ∧
    (completeSwitch x0 s).visits = s.visits ∧ (completeSwitch x0 s).tickets = s.tickets ∧
    (completeSwitch x0 s).time = s.time ∧ (completeSwitch x0 s).watch = s.watch ∧
    (completeSwitch x0 s).settings = s.settings ∧ (completeSwitch x0 s).freeCount = s.freeCount ∧
    (completeSwitch x0 s).pending = s.pending := by
  unfold completeSwitch
  cases x0 <;> simp [Mode.platforms]

@[simp] theorem testSwitch_frame (s : State) :
    (testSwitch s).part = s.part ∧ (testSwitch s).nextCapture = s.nextCapture ∧ (testSwitch s).inputs = s.inputs ∧
    (testSwitch s).drives = s.drives ∧ (testSwitch s).bars = s.bars ∧ (testSwitch s).recent = s.recent ∧
    (testSwitch s).readerErrors = s.readerErrors ∧ (testSwitch s).gates = s.gates ∧ (testSwitch s).alloc = s.alloc ∧
    (testSwitch s).tables = s.tables ∧ (testSwitch s).visits = s.visits ∧ (testSwitch s).tickets = s.tickets ∧
    (testSwitch s).time = s.time ∧ (testSwitch s).watch = s.watch ∧ (testSwitch s).settings = s.settings ∧
    (testSwitch s).freeCount = s.freeCount ∧ (testSwitch s).pending = s.pending := by
  unfold testSwitch
  (try dsimp only); (repeat' split) <;> (try simp) <;> (try simp_all)

@[simp] theorem beginSwitch_frame (x0 : Mode) (s : State) :
    (beginSwitch x0 s).part = s.part ∧ (beginSwitch x0 s).nextCapture = s.nextCapture ∧
    (beginSwitch x0 s).inputs = s.inputs ∧ (beginSwitch x0 s).recent = s.recent ∧
    (beginSwitch x0 s).readerErrors = s.readerErrors ∧ (beginSwitch x0 s).gates = s.gates ∧
    (beginSwitch x0 s).alloc = s.alloc ∧ (beginSwitch x0 s).tables = s.tables ∧ (beginSwitch x0 s).visits = s.visits ∧
    (beginSwitch x0 s).tickets = s.tickets ∧ (beginSwitch x0 s).time = s.time ∧ (beginSwitch x0 s).watch = s.watch ∧
    (beginSwitch x0 s).settings = s.settings ∧ (beginSwitch x0 s).freeCount = s.freeCount ∧
    (beginSwitch x0 s).pending = s.pending := by
  unfold beginSwitch
  (try dsimp only); (repeat' split) <;> (try simp) <;> (try simp_all)

@[simp] theorem failSwitch_frame (x0 : String) (s : State) :
    (failSwitch x0 s).part = s.part ∧ (failSwitch x0 s).intakes = s.intakes ∧ (failSwitch x0 s).sync = s.sync ∧
    (failSwitch x0 s).chains = s.chains ∧ (failSwitch x0 s).nextCapture = s.nextCapture ∧
    (failSwitch x0 s).inputs = s.inputs ∧ (failSwitch x0 s).recent = s.recent ∧
    (failSwitch x0 s).readerErrors = s.readerErrors ∧ (failSwitch x0 s).gates = s.gates ∧
    (failSwitch x0 s).alloc = s.alloc ∧ (failSwitch x0 s).tables = s.tables ∧ (failSwitch x0 s).visits = s.visits ∧
    (failSwitch x0 s).tickets = s.tickets ∧ (failSwitch x0 s).time = s.time ∧ (failSwitch x0 s).watch = s.watch ∧
    (failSwitch x0 s).settings = s.settings ∧ (failSwitch x0 s).freeCount = s.freeCount ∧
    (failSwitch x0 s).pending = s.pending := by
  unfold failSwitch
  (try dsimp only); (repeat' split) <;> (try simp) <;> (try simp_all)

@[simp] theorem platFault_frame (x0 : Platform) (s : State) :
    (platFault x0 s).part = s.part ∧ (platFault x0 s).intakes = s.intakes ∧ (platFault x0 s).sync = s.sync ∧
    (platFault x0 s).nextCapture = s.nextCapture ∧ (platFault x0 s).inputs = s.inputs ∧ (platFault x0 s).recent = s.recent ∧
    (platFault x0 s).readerErrors = s.readerErrors ∧ (platFault x0 s).gates = s.gates ∧ (platFault x0 s).alloc = s.alloc ∧
    (platFault x0 s).tables = s.tables ∧ (platFault x0 s).visits = s.visits ∧ (platFault x0 s).tickets = s.tickets ∧
    (platFault x0 s).time = s.time ∧ (platFault x0 s).watch = s.watch ∧ (platFault x0 s).settings = s.settings ∧
    (platFault x0 s).freeCount = s.freeCount ∧ (platFault x0 s).pending = s.pending := by
  unfold platFault
  (try dsimp only); (repeat' split) <;> (try simp) <;> (try simp_all)

@[simp] theorem platBarrierMoved_frame (x0 : Platform) (x1 : Barrier) (x2 : BarState) (s : State) :
    (platBarrierMoved x0 x1 x2 s).part = s.part ∧ (platBarrierMoved x0 x1 x2 s).intakes = s.intakes ∧
    (platBarrierMoved x0 x1 x2 s).sync = s.sync ∧ (platBarrierMoved x0 x1 x2 s).nextCapture = s.nextCapture ∧
    (platBarrierMoved x0 x1 x2 s).inputs = s.inputs ∧ (platBarrierMoved x0 x1 x2 s).recent = s.recent ∧
    (platBarrierMoved x0 x1 x2 s).readerErrors = s.readerErrors ∧ (platBarrierMoved x0 x1 x2 s).gates = s.gates ∧
    (platBarrierMoved x0 x1 x2 s).tables = s.tables ∧ (platBarrierMoved x0 x1 x2 s).tickets = s.tickets ∧
    (platBarrierMoved x0 x1 x2 s).time = s.time ∧ (platBarrierMoved x0 x1 x2 s).watch = s.watch ∧
    (platBarrierMoved x0 x1 x2 s).settings = s.settings ∧ (platBarrierMoved x0 x1 x2 s).freeCount = s.freeCount ∧
    (platBarrierMoved x0 x1 x2 s).pending = s.pending := by
  unfold platBarrierMoved
  (try dsimp only); (repeat' split) <;> (try simp) <;> (try simp_all)

@[simp] theorem platBarrier_frame (x0 : Barrier) (x1 : BarState) (s : State) :
    (platBarrier x0 x1 s).part = s.part ∧ (platBarrier x0 x1 s).nextCapture = s.nextCapture ∧
    (platBarrier x0 x1 s).inputs = s.inputs ∧ (platBarrier x0 x1 s).recent = s.recent ∧
    (platBarrier x0 x1 s).readerErrors = s.readerErrors ∧ (platBarrier x0 x1 s).gates = s.gates ∧
    (platBarrier x0 x1 s).tables = s.tables ∧ (platBarrier x0 x1 s).tickets = s.tickets ∧
    (platBarrier x0 x1 s).time = s.time ∧ (platBarrier x0 x1 s).watch = s.watch ∧
    (platBarrier x0 x1 s).settings = s.settings ∧ (platBarrier x0 x1 s).freeCount = s.freeCount ∧
    (platBarrier x0 x1 s).pending = s.pending := by
  unfold platBarrier
  (try dsimp only); (repeat' split) <;> (try simp) <;> (try simp_all)

@[simp] theorem platBeam_frame (x0 : Barrier) (x1 : Bool) (s : State) :
    (platBeam x0 x1 s).part = s.part ∧ (platBeam x0 x1 s).intakes = s.intakes ∧ (platBeam x0 x1 s).sync = s.sync ∧
    (platBeam x0 x1 s).nextCapture = s.nextCapture ∧ (platBeam x0 x1 s).inputs = s.inputs ∧
    (platBeam x0 x1 s).recent = s.recent ∧ (platBeam x0 x1 s).readerErrors = s.readerErrors ∧
    (platBeam x0 x1 s).gates = s.gates ∧ (platBeam x0 x1 s).alloc = s.alloc ∧ (platBeam x0 x1 s).tables = s.tables ∧
    (platBeam x0 x1 s).tickets = s.tickets ∧ (platBeam x0 x1 s).time = s.time ∧ (platBeam x0 x1 s).watch = s.watch ∧
    (platBeam x0 x1 s).settings = s.settings ∧ (platBeam x0 x1 s).freeCount = s.freeCount ∧
    (platBeam x0 x1 s).pending = s.pending := by
  unfold platBeam
  (try dsimp only); (repeat' split) <;> (try simp) <;> (try simp_all)

end Sys2Proof.Machine
end

