-- ==== Sys2Proof/Laws/FramesSignals.lean ====
section
/-! SUPPORT. Frames: the parts of the state that each operation leaves as they are, for gates, signals and readers. -/

set_option linter.unusedTactic false
set_option linter.unreachableTactic false
set_option linter.unnecessarySeqFocus false

namespace Sys2Proof.Machine

@[simp] theorem refusedNotice_frame (x0 : Gate) (x1 : Text) (x2 : String) (s : State) :
    (refusedNotice x0 x1 x2 s).part = s.part ∧ (refusedNotice x0 x1 x2 s).intakes = s.intakes ∧
    (refusedNotice x0 x1 x2 s).sync = s.sync ∧ (refusedNotice x0 x1 x2 s).chains = s.chains ∧
    (refusedNotice x0 x1 x2 s).nextCapture = s.nextCapture ∧ (refusedNotice x0 x1 x2 s).inputs = s.inputs ∧
    (refusedNotice x0 x1 x2 s).drives = s.drives ∧ (refusedNotice x0 x1 x2 s).beacons = s.beacons ∧
    (refusedNotice x0 x1 x2 s).bars = s.bars ∧ (refusedNotice x0 x1 x2 s).recent = s.recent ∧
    (refusedNotice x0 x1 x2 s).readerErrors = s.readerErrors ∧ (refusedNotice x0 x1 x2 s).gates = s.gates ∧
    (refusedNotice x0 x1 x2 s).plat = s.plat ∧ (refusedNotice x0 x1 x2 s).alloc = s.alloc ∧
    (refusedNotice x0 x1 x2 s).tables = s.tables ∧ (refusedNotice x0 x1 x2 s).visits = s.visits ∧
    (refusedNotice x0 x1 x2 s).tickets = s.tickets ∧ (refusedNotice x0 x1 x2 s).time = s.time ∧
    (refusedNotice x0 x1 x2 s).watch = s.watch ∧ (refusedNotice x0 x1 x2 s).settings = s.settings ∧
    (refusedNotice x0 x1 x2 s).freeCount = s.freeCount ∧ (refusedNotice x0 x1 x2 s).pending = s.pending := by
  unfold refusedNotice
  (try dsimp only); (repeat' split) <;> (try simp) <;> (try simp_all)

@[simp] theorem openGate_frame (x0 : Gate) (x1 : Option Nat) (s : State) :
    (openGate x0 x1 s).part = s.part ∧ (openGate x0 x1 s).intakes = s.intakes ∧ (openGate x0 x1 s).sync = s.sync ∧
    (openGate x0 x1 s).chains = s.chains ∧ (openGate x0 x1 s).nextCapture = s.nextCapture ∧
    (openGate x0 x1 s).inputs = s.inputs ∧ (openGate x0 x1 s).beacons = s.beacons ∧ (openGate x0 x1 s).recent = s.recent ∧
    (openGate x0 x1 s).readerErrors = s.readerErrors ∧ (openGate x0 x1 s).plat = s.plat ∧
    (openGate x0 x1 s).alloc = s.alloc ∧ (openGate x0 x1 s).tables = s.tables ∧ (openGate x0 x1 s).visits = s.visits ∧
    (openGate x0 x1 s).tickets = s.tickets ∧ (openGate x0 x1 s).time = s.time ∧ (openGate x0 x1 s).watch = s.watch ∧
    (openGate x0 x1 s).link = s.link ∧ (openGate x0 x1 s).settings = s.settings ∧
    (openGate x0 x1 s).freeCount = s.freeCount ∧ (openGate x0 x1 s).pending = s.pending := by
  unfold openGate
  (try dsimp only); (repeat' split) <;> (try simp) <;> (try simp_all)

@[simp] theorem closeGate_frame (x0 : Gate) (s : State) :
    (closeGate x0 s).part = s.part ∧ (closeGate x0 s).intakes = s.intakes ∧ (closeGate x0 s).sync = s.sync ∧
    (closeGate x0 s).chains = s.chains ∧ (closeGate x0 s).nextCapture = s.nextCapture ∧ (closeGate x0 s).inputs = s.inputs ∧
    (closeGate x0 s).drives = s.drives ∧ (closeGate x0 s).beacons = s.beacons ∧ (closeGate x0 s).bars = s.bars ∧
    (closeGate x0 s).recent = s.recent ∧ (closeGate x0 s).readerErrors = s.readerErrors ∧ (closeGate x0 s).plat = s.plat ∧
    (closeGate x0 s).alloc = s.alloc ∧ (closeGate x0 s).tables = s.tables ∧ (closeGate x0 s).visits = s.visits ∧
    (closeGate x0 s).tickets = s.tickets ∧ (closeGate x0 s).time = s.time ∧ (closeGate x0 s).watch = s.watch ∧
    (closeGate x0 s).link = s.link ∧ (closeGate x0 s).settings = s.settings ∧ (closeGate x0 s).freeCount = s.freeCount ∧
    (closeGate x0 s).pending = s.pending := by
  unfold closeGate
  (try dsimp only); (repeat' split) <;> (try simp) <;> (try simp_all)

@[simp] theorem gateBarrier_frame (x0 : Gate) (x1 : BarState) (s : State) :
    (gateBarrier x0 x1 s).part = s.part ∧ (gateBarrier x0 x1 s).intakes = s.intakes ∧ (gateBarrier x0 x1 s).sync = s.sync ∧
    (gateBarrier x0 x1 s).chains = s.chains ∧ (gateBarrier x0 x1 s).nextCapture = s.nextCapture ∧
    (gateBarrier x0 x1 s).inputs = s.inputs ∧ (gateBarrier x0 x1 s).beacons = s.beacons ∧
    (gateBarrier x0 x1 s).recent = s.recent ∧ (gateBarrier x0 x1 s).readerErrors = s.readerErrors ∧
    (gateBarrier x0 x1 s).plat = s.plat ∧ (gateBarrier x0 x1 s).alloc = s.alloc ∧ (gateBarrier x0 x1 s).tables = s.tables ∧
    (gateBarrier x0 x1 s).visits = s.visits ∧ (gateBarrier x0 x1 s).tickets = s.tickets ∧
    (gateBarrier x0 x1 s).time = s.time ∧ (gateBarrier x0 x1 s).watch = s.watch ∧
    (gateBarrier x0 x1 s).settings = s.settings ∧ (gateBarrier x0 x1 s).freeCount = s.freeCount ∧
    (gateBarrier x0 x1 s).pending = s.pending := by
  unfold gateBarrier
  (try dsimp only); (repeat' split) <;> (try simp) <;> (try simp_all)

@[simp] theorem removeVisit_frame (x0 : Nat) (s : State) :
    (removeVisit x0 s).part = s.part ∧ (removeVisit x0 s).intakes = s.intakes ∧ (removeVisit x0 s).sync = s.sync ∧
    (removeVisit x0 s).chains = s.chains ∧ (removeVisit x0 s).nextCapture = s.nextCapture ∧
    (removeVisit x0 s).inputs = s.inputs ∧ (removeVisit x0 s).drives = s.drives ∧ (removeVisit x0 s).beacons = s.beacons ∧
    (removeVisit x0 s).bars = s.bars ∧ (removeVisit x0 s).recent = s.recent ∧
    (removeVisit x0 s).readerErrors = s.readerErrors ∧ 
    (removeVisit x0 s).plat = s.plat ∧ (removeVisit x0 s).alloc = s.alloc ∧ (removeVisit x0 s).tables = s.tables ∧
    (removeVisit x0 s).tickets = s.tickets ∧ (removeVisit x0 s).time = s.time ∧ (removeVisit x0 s).watch = s.watch ∧
    (removeVisit x0 s).link = s.link ∧ (removeVisit x0 s).settings = s.settings ∧
    (removeVisit x0 s).freeCount = s.freeCount ∧ (removeVisit x0 s).pending = s.pending := by
  unfold removeVisit
  (try dsimp only); (repeat' split) <;> (try simp) <;> (try simp_all)

@[simp] theorem passVisit_frame (x0 : Gate) (x1 : Option Nat) (s : State) :
    (passVisit x0 x1 s).part = s.part ∧ (passVisit x0 x1 s).intakes = s.intakes ∧ (passVisit x0 x1 s).sync = s.sync ∧
    (passVisit x0 x1 s).chains = s.chains ∧ (passVisit x0 x1 s).nextCapture = s.nextCapture ∧
    (passVisit x0 x1 s).inputs = s.inputs ∧ (passVisit x0 x1 s).drives = s.drives ∧
    (passVisit x0 x1 s).beacons = s.beacons ∧ (passVisit x0 x1 s).bars = s.bars ∧ (passVisit x0 x1 s).recent = s.recent ∧
    (passVisit x0 x1 s).readerErrors = s.readerErrors ∧ 
    (passVisit x0 x1 s).plat = s.plat ∧ (passVisit x0 x1 s).alloc = s.alloc ∧ (passVisit x0 x1 s).tables = s.tables ∧
    (passVisit x0 x1 s).tickets = s.tickets ∧ (passVisit x0 x1 s).time = s.time ∧ (passVisit x0 x1 s).watch = s.watch ∧
    (passVisit x0 x1 s).link = s.link ∧ (passVisit x0 x1 s).settings = s.settings ∧
    (passVisit x0 x1 s).freeCount = s.freeCount ∧ (passVisit x0 x1 s).pending = s.pending := by
  unfold passVisit
  (try dsimp only); (repeat' split) <;> (try simp) <;> (try simp_all)

@[simp] theorem passage_frame (x0 : Gate) (s : State) :
    (passage x0 s).part = s.part ∧ (passage x0 s).intakes = s.intakes ∧ (passage x0 s).sync = s.sync ∧
    (passage x0 s).chains = s.chains ∧ (passage x0 s).nextCapture = s.nextCapture ∧ (passage x0 s).inputs = s.inputs ∧
    (passage x0 s).beacons = s.beacons ∧ (passage x0 s).recent = s.recent ∧ (passage x0 s).readerErrors = s.readerErrors ∧
    (passage x0 s).plat = s.plat ∧ (passage x0 s).alloc = s.alloc ∧ (passage x0 s).tables = s.tables ∧
    (passage x0 s).tickets = s.tickets ∧ (passage x0 s).time = s.time ∧ (passage x0 s).watch = s.watch ∧
    (passage x0 s).settings = s.settings ∧ (passage x0 s).freeCount = s.freeCount ∧ (passage x0 s).pending = s.pending := by
  unfold passage
  (try dsimp only); (repeat' split) <;> (try simp) <;> (try simp_all)

@[simp] theorem gateBeam_frame (x0 : Gate) (x1 : Bool) (s : State) :
    (gateBeam x0 x1 s).part = s.part ∧ (gateBeam x0 x1 s).intakes = s.intakes ∧ (gateBeam x0 x1 s).sync = s.sync ∧
    (gateBeam x0 x1 s).chains = s.chains ∧ (gateBeam x0 x1 s).nextCapture = s.nextCapture ∧
    (gateBeam x0 x1 s).inputs = s.inputs ∧ (gateBeam x0 x1 s).beacons = s.beacons ∧ (gateBeam x0 x1 s).recent = s.recent ∧
    (gateBeam x0 x1 s).readerErrors = s.readerErrors ∧ (gateBeam x0 x1 s).plat = s.plat ∧
    (gateBeam x0 x1 s).alloc = s.alloc ∧ (gateBeam x0 x1 s).tables = s.tables ∧ (gateBeam x0 x1 s).tickets = s.tickets ∧
    (gateBeam x0 x1 s).time = s.time ∧ (gateBeam x0 x1 s).watch = s.watch ∧ (gateBeam x0 x1 s).settings = s.settings ∧
    (gateBeam x0 x1 s).freeCount = s.freeCount ∧ (gateBeam x0 x1 s).pending = s.pending := by
  unfold gateBeam
  (try dsimp only); (repeat' split) <;> (try simp) <;> (try simp_all)

@[simp] theorem gateHoldFires_frame (x0 : Gate) (s : State) :
    (gateHoldFires x0 s).part = s.part ∧ (gateHoldFires x0 s).intakes = s.intakes ∧ (gateHoldFires x0 s).sync = s.sync ∧
    (gateHoldFires x0 s).chains = s.chains ∧ (gateHoldFires x0 s).nextCapture = s.nextCapture ∧
    (gateHoldFires x0 s).inputs = s.inputs ∧ (gateHoldFires x0 s).beacons = s.beacons ∧
    (gateHoldFires x0 s).recent = s.recent ∧ (gateHoldFires x0 s).readerErrors = s.readerErrors ∧
    (gateHoldFires x0 s).plat = s.plat ∧ (gateHoldFires x0 s).alloc = s.alloc ∧ (gateHoldFires x0 s).tables = s.tables ∧
    (gateHoldFires x0 s).visits = s.visits ∧ (gateHoldFires x0 s).tickets = s.tickets ∧ (gateHoldFires x0 s).time = s.time ∧
    (gateHoldFires x0 s).watch = s.watch ∧ (gateHoldFires x0 s).settings = s.settings ∧
    (gateHoldFires x0 s).freeCount = s.freeCount ∧ (gateHoldFires x0 s).pending = s.pending := by
  unfold gateHoldFires
  (try dsimp only); (repeat' split) <;> (try simp) <;> (try simp_all)

@[simp] theorem entryLoopLeft_frame (s : State) :
    (entryLoopLeft s).part = s.part ∧ (entryLoopLeft s).intakes = s.intakes ∧ (entryLoopLeft s).sync = s.sync ∧
    (entryLoopLeft s).chains = s.chains ∧ (entryLoopLeft s).nextCapture = s.nextCapture ∧
    (entryLoopLeft s).inputs = s.inputs ∧ (entryLoopLeft s).drives = s.drives ∧ (entryLoopLeft s).beacons = s.beacons ∧
    (entryLoopLeft s).bars = s.bars ∧ (entryLoopLeft s).recent = s.recent ∧
    (entryLoopLeft s).readerErrors = s.readerErrors ∧ (entryLoopLeft s).plat = s.plat ∧ (entryLoopLeft s).alloc = s.alloc ∧
    (entryLoopLeft s).tables = s.tables ∧ (entryLoopLeft s).visits = s.visits ∧ (entryLoopLeft s).tickets = s.tickets ∧
    (entryLoopLeft s).time = s.time ∧ (entryLoopLeft s).watch = s.watch ∧ (entryLoopLeft s).settings = s.settings ∧
    (entryLoopLeft s).freeCount = s.freeCount ∧ (entryLoopLeft s).pending = s.pending := by
  unfold entryLoopLeft
  (try dsimp only); (repeat' split) <;> (try simp) <;> (try simp_all)

@[simp] theorem createVisit_frame (x0 : Admittee) (s : State) :
    (createVisit x0 s).part = s.part ∧ (createVisit x0 s).intakes = s.intakes ∧ (createVisit x0 s).sync = s.sync ∧
    (createVisit x0 s).chains = s.chains ∧ (createVisit x0 s).nextCapture = s.nextCapture ∧
    (createVisit x0 s).inputs = s.inputs ∧ (createVisit x0 s).drives = s.drives ∧ (createVisit x0 s).beacons = s.beacons ∧
    (createVisit x0 s).bars = s.bars ∧ (createVisit x0 s).recent = s.recent ∧
    (createVisit x0 s).readerErrors = s.readerErrors ∧ (createVisit x0 s).gates = s.gates ∧
    (createVisit x0 s).plat = s.plat ∧ (createVisit x0 s).alloc = s.alloc ∧ (createVisit x0 s).tables = s.tables ∧
    (createVisit x0 s).tickets = s.tickets ∧ (createVisit x0 s).time = s.time ∧ (createVisit x0 s).watch = s.watch ∧
    (createVisit x0 s).link = s.link ∧ (createVisit x0 s).settings = s.settings ∧
    (createVisit x0 s).freeCount = s.freeCount ∧ (createVisit x0 s).pending = s.pending := by
  unfold createVisit
  (try dsimp only); (repeat' split) <;> (try simp) <;> (try simp_all)

@[simp] theorem admission_frame (x0 : Admittee) (s : State) :
    (admission x0 s).part = s.part ∧ (admission x0 s).intakes = s.intakes ∧ (admission x0 s).sync = s.sync ∧
    (admission x0 s).chains = s.chains ∧ (admission x0 s).nextCapture = s.nextCapture ∧ (admission x0 s).inputs = s.inputs ∧
    (admission x0 s).beacons = s.beacons ∧ (admission x0 s).recent = s.recent ∧
    (admission x0 s).readerErrors = s.readerErrors ∧ (admission x0 s).plat = s.plat ∧ (admission x0 s).tickets = s.tickets ∧
    (admission x0 s).time = s.time ∧ (admission x0 s).watch = s.watch ∧ (admission x0 s).settings = s.settings ∧
    (admission x0 s).freeCount = s.freeCount ∧ (admission x0 s).pending = s.pending := by
  unfold admission
  (try dsimp only); (repeat' split) <;> (try simp) <;> (try simp_all)

@[simp] theorem reopen_frame (x0 : Visit) (x1 : Text) (s : State) :
    (reopen x0 x1 s).part = s.part ∧ (reopen x0 x1 s).intakes = s.intakes ∧ (reopen x0 x1 s).sync = s.sync ∧
    (reopen x0 x1 s).chains = s.chains ∧ (reopen x0 x1 s).nextCapture = s.nextCapture ∧ (reopen x0 x1 s).inputs = s.inputs ∧
    (reopen x0 x1 s).beacons = s.beacons ∧ (reopen x0 x1 s).recent = s.recent ∧
    (reopen x0 x1 s).readerErrors = s.readerErrors ∧ (reopen x0 x1 s).plat = s.plat ∧ (reopen x0 x1 s).alloc = s.alloc ∧
    (reopen x0 x1 s).tables = s.tables ∧ (reopen x0 x1 s).visits = s.visits ∧ (reopen x0 x1 s).tickets = s.tickets ∧
    (reopen x0 x1 s).time = s.time ∧ (reopen x0 x1 s).watch = s.watch ∧ (reopen x0 x1 s).settings = s.settings ∧
    (reopen x0 x1 s).freeCount = s.freeCount ∧ (reopen x0 x1 s).pending = s.pending := by
  unfold reopen
  (try dsimp only); (repeat' split) <;> (try simp) <;> (try simp_all)

@[simp] theorem entryRead_frame (x0 : Text) (s : State) :
    (entryRead x0 s).part = s.part ∧ (entryRead x0 s).intakes = s.intakes ∧ (entryRead x0 s).sync = s.sync ∧
    (entryRead x0 s).chains = s.chains ∧ (entryRead x0 s).nextCapture = s.nextCapture ∧ (entryRead x0 s).inputs = s.inputs ∧
    (entryRead x0 s).beacons = s.beacons ∧ (entryRead x0 s).recent = s.recent ∧
    (entryRead x0 s).readerErrors = s.readerErrors ∧ (entryRead x0 s).plat = s.plat ∧ (entryRead x0 s).tickets = s.tickets ∧
    (entryRead x0 s).time = s.time ∧ (entryRead x0 s).watch = s.watch ∧ (entryRead x0 s).settings = s.settings ∧
    (entryRead x0 s).freeCount = s.freeCount ∧ (entryRead x0 s).pending = s.pending := by
  unfold entryRead
  (try dsimp only); (repeat' split) <;> (try simp) <;> (try simp_all)

@[simp] theorem exitRead_frame (x0 : Text) (s : State) :
    (exitRead x0 s).part = s.part ∧ (exitRead x0 s).intakes = s.intakes ∧ (exitRead x0 s).sync = s.sync ∧
    (exitRead x0 s).chains = s.chains ∧ (exitRead x0 s).nextCapture = s.nextCapture ∧ (exitRead x0 s).inputs = s.inputs ∧
    (exitRead x0 s).beacons = s.beacons ∧ (exitRead x0 s).recent = s.recent ∧
    (exitRead x0 s).readerErrors = s.readerErrors ∧ (exitRead x0 s).plat = s.plat ∧ (exitRead x0 s).alloc = s.alloc ∧
    (exitRead x0 s).tables = s.tables ∧ (exitRead x0 s).visits = s.visits ∧ (exitRead x0 s).tickets = s.tickets ∧
    (exitRead x0 s).time = s.time ∧ (exitRead x0 s).watch = s.watch ∧ (exitRead x0 s).settings = s.settings ∧
    (exitRead x0 s).freeCount = s.freeCount ∧ (exitRead x0 s).pending = s.pending := by
  unfold exitRead
  (try dsimp only); (repeat' split) <;> (try simp) <;> (try simp_all)

@[simp] theorem returnRead_frame (x0 : Text) (s : State) :
    (returnRead x0 s).part = s.part ∧ (returnRead x0 s).intakes = s.intakes ∧ (returnRead x0 s).sync = s.sync ∧
    (returnRead x0 s).chains = s.chains ∧ (returnRead x0 s).nextCapture = s.nextCapture ∧
    (returnRead x0 s).inputs = s.inputs ∧ (returnRead x0 s).drives = s.drives ∧ (returnRead x0 s).beacons = s.beacons ∧
    (returnRead x0 s).bars = s.bars ∧ (returnRead x0 s).recent = s.recent ∧
    (returnRead x0 s).readerErrors = s.readerErrors ∧ (returnRead x0 s).gates = s.gates ∧ (returnRead x0 s).plat = s.plat ∧
    (returnRead x0 s).tables = s.tables ∧ (returnRead x0 s).tickets = s.tickets ∧ (returnRead x0 s).time = s.time ∧
    (returnRead x0 s).watch = s.watch ∧ (returnRead x0 s).settings = s.settings ∧
    (returnRead x0 s).freeCount = s.freeCount ∧ (returnRead x0 s).pending = s.pending := by
  unfold returnRead
  (try dsimp only); (repeat' split) <;> (try simp) <;> (try simp_all)

@[simp] theorem admitRule_frame (x0 : List Text) (s : State) :
    (admitRule x0 s).1.part = s.part ∧ (admitRule x0 s).1.intakes = s.intakes ∧ (admitRule x0 s).1.sync = s.sync ∧
    (admitRule x0 s).1.chains = s.chains ∧ (admitRule x0 s).1.nextCapture = s.nextCapture ∧
    (admitRule x0 s).1.inputs = s.inputs ∧ (admitRule x0 s).1.beacons = s.beacons ∧ (admitRule x0 s).1.recent = s.recent ∧
    (admitRule x0 s).1.readerErrors = s.readerErrors ∧ (admitRule x0 s).1.plat = s.plat ∧
    (admitRule x0 s).1.tickets = s.tickets ∧ (admitRule x0 s).1.time = s.time ∧ (admitRule x0 s).1.watch = s.watch ∧
    (admitRule x0 s).1.settings = s.settings ∧ (admitRule x0 s).1.freeCount = s.freeCount ∧
    (admitRule x0 s).1.pending = s.pending := by
  unfold admitRule accept refuse
  (try dsimp only); (repeat' split) <;> (try simp) <;> (try (split <;> simp))

@[simp] theorem refuseRule_frame (x0 : List Text) (s : State) :
    (refuseRule x0 s).1.part = s.part ∧ (refuseRule x0 s).1.intakes = s.intakes ∧ (refuseRule x0 s).1.sync = s.sync ∧
    (refuseRule x0 s).1.chains = s.chains ∧ (refuseRule x0 s).1.nextCapture = s.nextCapture ∧
    (refuseRule x0 s).1.inputs = s.inputs ∧ (refuseRule x0 s).1.drives = s.drives ∧
    (refuseRule x0 s).1.beacons = s.beacons ∧ (refuseRule x0 s).1.bars = s.bars ∧ (refuseRule x0 s).1.recent = s.recent ∧
    (refuseRule x0 s).1.readerErrors = s.readerErrors ∧ (refuseRule x0 s).1.plat = s.plat ∧
    (refuseRule x0 s).1.alloc = s.alloc ∧ (refuseRule x0 s).1.tables = s.tables ∧ (refuseRule x0 s).1.visits = s.visits ∧
    (refuseRule x0 s).1.tickets = s.tickets ∧ (refuseRule x0 s).1.time = s.time ∧ (refuseRule x0 s).1.watch = s.watch ∧
    (refuseRule x0 s).1.settings = s.settings ∧ (refuseRule x0 s).1.freeCount = s.freeCount ∧
    (refuseRule x0 s).1.pending = s.pending := by
  unfold refuseRule accept refuse
  (try dsimp only); (repeat' split) <;> (try simp) <;> (try (split <;> simp))

@[simp] theorem gateOpenRule_frame (x0 : List Text) (s : State) :
    (gateOpenRule x0 s).1.part = s.part ∧ (gateOpenRule x0 s).1.intakes = s.intakes ∧ (gateOpenRule x0 s).1.sync = s.sync ∧
    (gateOpenRule x0 s).1.chains = s.chains ∧ (gateOpenRule x0 s).1.nextCapture = s.nextCapture ∧
    (gateOpenRule x0 s).1.inputs = s.inputs ∧ (gateOpenRule x0 s).1.beacons = s.beacons ∧
    (gateOpenRule x0 s).1.recent = s.recent ∧ (gateOpenRule x0 s).1.readerErrors = s.readerErrors ∧
    (gateOpenRule x0 s).1.plat = s.plat ∧ (gateOpenRule x0 s).1.alloc = s.alloc ∧ (gateOpenRule x0 s).1.tables = s.tables ∧
    (gateOpenRule x0 s).1.visits = s.visits ∧ (gateOpenRule x0 s).1.tickets = s.tickets ∧
    (gateOpenRule x0 s).1.time = s.time ∧ (gateOpenRule x0 s).1.watch = s.watch ∧
    (gateOpenRule x0 s).1.settings = s.settings ∧ (gateOpenRule x0 s).1.freeCount = s.freeCount ∧
    (gateOpenRule x0 s).1.pending = s.pending := by
  unfold gateOpenRule accept refuse
  (try dsimp only); (repeat' split) <;> (try simp) <;> (try (split <;> simp))

@[simp] theorem handOne_frame (x0 : Barrier) (x1 : BarState) (s : State) :
    (handOne x0 x1 s).part = s.part ∧ (handOne x0 x1 s).nextCapture = s.nextCapture ∧ (handOne x0 x1 s).inputs = s.inputs ∧
    (handOne x0 x1 s).recent = s.recent ∧ (handOne x0 x1 s).readerErrors = s.readerErrors ∧
    (handOne x0 x1 s).tables = s.tables ∧ (handOne x0 x1 s).tickets = s.tickets ∧ (handOne x0 x1 s).time = s.time ∧
    (handOne x0 x1 s).watch = s.watch ∧ (handOne x0 x1 s).settings = s.settings ∧
    (handOne x0 x1 s).freeCount = s.freeCount ∧ (handOne x0 x1 s).pending = s.pending := by
  unfold handOne
  (try dsimp only); (repeat' split) <;> (try simp) <;> (try simp_all)

@[simp] theorem clearReader_frame (x0 : Reader) (s : State) :
    (clearReader x0 s).part = s.part ∧ (clearReader x0 s).intakes = s.intakes ∧ (clearReader x0 s).sync = s.sync ∧
    (clearReader x0 s).chains = s.chains ∧ (clearReader x0 s).nextCapture = s.nextCapture ∧
    (clearReader x0 s).inputs = s.inputs ∧ (clearReader x0 s).drives = s.drives ∧ (clearReader x0 s).beacons = s.beacons ∧
    (clearReader x0 s).bars = s.bars ∧ (clearReader x0 s).readerErrors = s.readerErrors ∧
    (clearReader x0 s).gates = s.gates ∧ (clearReader x0 s).plat = s.plat ∧ (clearReader x0 s).alloc = s.alloc ∧
    (clearReader x0 s).tables = s.tables ∧ (clearReader x0 s).visits = s.visits ∧ (clearReader x0 s).tickets = s.tickets ∧
    (clearReader x0 s).time = s.time ∧ (clearReader x0 s).watch = s.watch ∧ (clearReader x0 s).link = s.link ∧
    (clearReader x0 s).settings = s.settings ∧ (clearReader x0 s).freeCount = s.freeCount ∧
    (clearReader x0 s).pending = s.pending := by
  unfold clearReader
  (try dsimp only); (repeat' split) <;> (try simp) <;> (try simp_all)

@[simp] theorem deliverLoop_frame (x0 : Barrier) (x1 : Bool) (s : State) :
    (deliverLoop x0 x1 s).part = s.part ∧ (deliverLoop x0 x1 s).intakes = s.intakes ∧ (deliverLoop x0 x1 s).sync = s.sync ∧
    (deliverLoop x0 x1 s).chains = s.chains ∧ (deliverLoop x0 x1 s).nextCapture = s.nextCapture ∧
    (deliverLoop x0 x1 s).inputs = s.inputs ∧ (deliverLoop x0 x1 s).drives = s.drives ∧
    (deliverLoop x0 x1 s).beacons = s.beacons ∧ (deliverLoop x0 x1 s).bars = s.bars ∧
    (deliverLoop x0 x1 s).readerErrors = s.readerErrors ∧ (deliverLoop x0 x1 s).plat = s.plat ∧
    (deliverLoop x0 x1 s).alloc = s.alloc ∧ (deliverLoop x0 x1 s).tables = s.tables ∧
    (deliverLoop x0 x1 s).visits = s.visits ∧ (deliverLoop x0 x1 s).tickets = s.tickets ∧
    (deliverLoop x0 x1 s).time = s.time ∧ (deliverLoop x0 x1 s).watch = s.watch ∧
    (deliverLoop x0 x1 s).settings = s.settings ∧ (deliverLoop x0 x1 s).freeCount = s.freeCount ∧
    (deliverLoop x0 x1 s).pending = s.pending := by
  unfold deliverLoop
  (try dsimp only); (repeat' split) <;> (try simp) <;> (try simp_all)

@[simp] theorem deliverUserBeam_frame (x0 : Barrier) (x1 : Bool) (s : State) :
    (deliverUserBeam x0 x1 s).part = s.part ∧ (deliverUserBeam x0 x1 s).intakes = s.intakes ∧
    (deliverUserBeam x0 x1 s).sync = s.sync ∧ (deliverUserBeam x0 x1 s).nextCapture = s.nextCapture ∧
    (deliverUserBeam x0 x1 s).inputs = s.inputs ∧ (deliverUserBeam x0 x1 s).recent = s.recent ∧
    (deliverUserBeam x0 x1 s).readerErrors = s.readerErrors ∧ (deliverUserBeam x0 x1 s).alloc = s.alloc ∧
    (deliverUserBeam x0 x1 s).tables = s.tables ∧ (deliverUserBeam x0 x1 s).tickets = s.tickets ∧
    (deliverUserBeam x0 x1 s).time = s.time ∧ (deliverUserBeam x0 x1 s).watch = s.watch ∧
    (deliverUserBeam x0 x1 s).settings = s.settings ∧ (deliverUserBeam x0 x1 s).freeCount = s.freeCount ∧
    (deliverUserBeam x0 x1 s).pending = s.pending := by
  unfold deliverUserBeam
  (try dsimp only); (repeat' split) <;> (try simp) <;> (try simp_all)

@[simp] theorem hand_frame (b : Barrier) (r : BarStep) :
    (hand b r).part = r.1.part ∧ (hand b r).nextCapture = r.1.nextCapture ∧ (hand b r).inputs = r.1.inputs ∧
    (hand b r).recent = r.1.recent ∧ (hand b r).readerErrors = r.1.readerErrors ∧ (hand b r).tables = r.1.tables ∧
    (hand b r).tickets = r.1.tickets ∧ (hand b r).time = r.1.time ∧ (hand b r).watch = r.1.watch ∧
    (hand b r).settings = r.1.settings ∧ (hand b r).freeCount = r.1.freeCount ∧ (hand b r).pending = r.1.pending := by
  simp [hand]

@[simp] theorem foldl_modInput_frame (g : InputId → Input → Input) (l : List InputId) (s : State) :
    (l.foldl (fun t i => t.modInput i (g i)) s).part = s.part ∧
    (l.foldl (fun t i => t.modInput i (g i)) s).intakes = s.intakes ∧
    (l.foldl (fun t i => t.modInput i (g i)) s).sync = s.sync ∧
    (l.foldl (fun t i => t.modInput i (g i)) s).chains = s.chains ∧
    (l.foldl (fun t i => t.modInput i (g i)) s).nextCapture = s.nextCapture ∧
    (l.foldl (fun t i => t.modInput i (g i)) s).drives = s.drives ∧
    (l.foldl (fun t i => t.modInput i (g i)) s).beacons = s.beacons ∧
    (l.foldl (fun t i => t.modInput i (g i)) s).bars = s.bars ∧
    (l.foldl (fun t i => t.modInput i (g i)) s).recent = s.recent ∧
    (l.foldl (fun t i => t.modInput i (g i)) s).readerErrors = s.readerErrors ∧
    (l.foldl (fun t i => t.modInput i (g i)) s).gates = s.gates ∧
    (l.foldl (fun t i => t.modInput i (g i)) s).plat = s.plat ∧
    (l.foldl (fun t i => t.modInput i (g i)) s).alloc = s.alloc ∧
    (l.foldl (fun t i => t.modInput i (g i)) s).tables = s.tables ∧
    (l.foldl (fun t i => t.modInput i (g i)) s).visits = s.visits ∧
    (l.foldl (fun t i => t.modInput i (g i)) s).tickets = s.tickets ∧
    (l.foldl (fun t i => t.modInput i (g i)) s).time = s.time ∧
    (l.foldl (fun t i => t.modInput i (g i)) s).watch = s.watch ∧
    (l.foldl (fun t i => t.modInput i (g i)) s).link = s.link ∧
    (l.foldl (fun t i => t.modInput i (g i)) s).settings = s.settings ∧
    (l.foldl (fun t i => t.modInput i (g i)) s).freeCount = s.freeCount ∧
    (l.foldl (fun t i => t.modInput i (g i)) s).pending = s.pending := by
  induction l generalizing s with
  | nil => simp
  | cons i l ih => simp [ih]

@[simp] theorem deliverInput_frame (x0 : InputId) (x1 : Bool) (s : State) :
    (deliverInput x0 x1 s).part = s.part ∧ (deliverInput x0 x1 s).nextCapture = s.nextCapture ∧
    (deliverInput x0 x1 s).inputs = s.inputs ∧ (deliverInput x0 x1 s).readerErrors = s.readerErrors ∧
    (deliverInput x0 x1 s).tables = s.tables ∧ (deliverInput x0 x1 s).tickets = s.tickets ∧
    (deliverInput x0 x1 s).time = s.time ∧ (deliverInput x0 x1 s).watch = s.watch ∧
    (deliverInput x0 x1 s).settings = s.settings ∧ (deliverInput x0 x1 s).freeCount = s.freeCount ∧
    (deliverInput x0 x1 s).pending = s.pending := by
  unfold deliverInput
  (try dsimp only); (repeat' split) <;> (try simp) <;> (try simp_all)

@[simp] theorem changeInput_frame (x0 : InputId) (x1 : Input) (s : State) :
    (changeInput x0 x1 s).part = s.part ∧ (changeInput x0 x1 s).nextCapture = s.nextCapture ∧
    (changeInput x0 x1 s).readerErrors = s.readerErrors ∧ (changeInput x0 x1 s).tables = s.tables ∧
    (changeInput x0 x1 s).tickets = s.tickets ∧ (changeInput x0 x1 s).time = s.time ∧
    (changeInput x0 x1 s).watch = s.watch ∧ (changeInput x0 x1 s).settings = s.settings ∧
    (changeInput x0 x1 s).freeCount = s.freeCount ∧ (changeInput x0 x1 s).pending = s.pending := by
  unfold changeInput
  (try dsimp only); (repeat' split) <;> (try simp) <;> (try simp_all)

@[simp] theorem rawArrives_frame (x0 : InputId) (x1 : Bool) (s : State) :
    (rawArrives x0 x1 s).part = s.part ∧ (rawArrives x0 x1 s).nextCapture = s.nextCapture ∧
    (rawArrives x0 x1 s).readerErrors = s.readerErrors ∧ (rawArrives x0 x1 s).tables = s.tables ∧
    (rawArrives x0 x1 s).tickets = s.tickets ∧ (rawArrives x0 x1 s).time = s.time ∧ (rawArrives x0 x1 s).watch = s.watch ∧
    (rawArrives x0 x1 s).settings = s.settings ∧ (rawArrives x0 x1 s).freeCount = s.freeCount ∧
    (rawArrives x0 x1 s).pending = s.pending := by
  unfold rawArrives
  (try dsimp only); (repeat' split) <;> (try simp) <;> (try simp_all)

@[simp] theorem debounceFires_frame (x0 : InputId) (s : State) :
    (debounceFires x0 s).part = s.part ∧ (debounceFires x0 s).nextCapture = s.nextCapture ∧
    (debounceFires x0 s).readerErrors = s.readerErrors ∧ (debounceFires x0 s).tables = s.tables ∧
    (debounceFires x0 s).tickets = s.tickets ∧ (debounceFires x0 s).time = s.time ∧ (debounceFires x0 s).watch = s.watch ∧
    (debounceFires x0 s).settings = s.settings ∧ (debounceFires x0 s).freeCount = s.freeCount ∧
    (debounceFires x0 s).pending = s.pending := by
  unfold debounceFires
  (try dsimp only); (repeat' split) <;> (try simp) <;> (try simp_all)

@[simp] theorem applyYard_frame (x0 : YardSet) (s : State) :
    (applyYard x0 s).part = s.part ∧ (applyYard x0 s).nextCapture = s.nextCapture ∧
    (applyYard x0 s).readerErrors = s.readerErrors ∧ (applyYard x0 s).tables = s.tables ∧
    (applyYard x0 s).tickets = s.tickets ∧ (applyYard x0 s).time = s.time ∧ (applyYard x0 s).watch = s.watch ∧
    (applyYard x0 s).freeCount = s.freeCount ∧ (applyYard x0 s).pending = s.pending := by
  unfold applyYard
  (try dsimp only); (repeat' split) <;> (try simp) <;> (try simp_all)

@[simp] theorem inputOverrideRule_frame (x0 : List Text) (s : State) :
    (inputOverrideRule x0 s).1.part = s.part ∧ (inputOverrideRule x0 s).1.nextCapture = s.nextCapture ∧
    (inputOverrideRule x0 s).1.readerErrors = s.readerErrors ∧ (inputOverrideRule x0 s).1.tables = s.tables ∧
    (inputOverrideRule x0 s).1.tickets = s.tickets ∧ (inputOverrideRule x0 s).1.time = s.time ∧
    (inputOverrideRule x0 s).1.watch = s.watch ∧ (inputOverrideRule x0 s).1.settings = s.settings ∧
    (inputOverrideRule x0 s).1.freeCount = s.freeCount ∧ (inputOverrideRule x0 s).1.pending = s.pending := by
  unfold inputOverrideRule accept refuse
  (try dsimp only); (repeat' split) <;> (try simp) <;> (try (split <;> simp))

@[simp] theorem inputsRule_frame (x0 : List Text) (s : State) :
    (inputsRule x0 s).1.part = s.part ∧ (inputsRule x0 s).1.intakes = s.intakes ∧ (inputsRule x0 s).1.sync = s.sync ∧
    (inputsRule x0 s).1.chains = s.chains ∧ (inputsRule x0 s).1.nextCapture = s.nextCapture ∧
    (inputsRule x0 s).1.inputs = s.inputs ∧ (inputsRule x0 s).1.drives = s.drives ∧
    (inputsRule x0 s).1.beacons = s.beacons ∧ (inputsRule x0 s).1.bars = s.bars ∧ (inputsRule x0 s).1.recent = s.recent ∧
    (inputsRule x0 s).1.readerErrors = s.readerErrors ∧ (inputsRule x0 s).1.gates = s.gates ∧
    (inputsRule x0 s).1.plat = s.plat ∧ (inputsRule x0 s).1.alloc = s.alloc ∧ (inputsRule x0 s).1.tables = s.tables ∧
    (inputsRule x0 s).1.visits = s.visits ∧ (inputsRule x0 s).1.tickets = s.tickets ∧ (inputsRule x0 s).1.time = s.time ∧
    (inputsRule x0 s).1.watch = s.watch ∧ (inputsRule x0 s).1.link = s.link ∧ (inputsRule x0 s).1.settings = s.settings ∧
    (inputsRule x0 s).1.freeCount = s.freeCount ∧ (inputsRule x0 s).1.pending = s.pending := by
  unfold inputsRule accept refuse
  (try dsimp only); (repeat' split) <;> (try simp) <;> (try (split <;> simp))

@[simp] theorem travelFires_frame (x0 : Barrier) (s : State) :
    (travelFires x0 s).part = s.part ∧ (travelFires x0 s).nextCapture = s.nextCapture ∧
    (travelFires x0 s).inputs = s.inputs ∧ (travelFires x0 s).recent = s.recent ∧
    (travelFires x0 s).readerErrors = s.readerErrors ∧ (travelFires x0 s).tables = s.tables ∧
    (travelFires x0 s).tickets = s.tickets ∧ (travelFires x0 s).time = s.time ∧ (travelFires x0 s).watch = s.watch ∧
    (travelFires x0 s).settings = s.settings ∧ (travelFires x0 s).freeCount = s.freeCount ∧
    (travelFires x0 s).pending = s.pending := by
  unfold travelFires
  (try dsimp only); (repeat' split) <;> (try simp) <;> (try simp_all)

@[simp] theorem barrierResetRule_frame (x0 : List Text) (s : State) :
    (barrierResetRule x0 s).1.part = s.part ∧ (barrierResetRule x0 s).1.nextCapture = s.nextCapture ∧
    (barrierResetRule x0 s).1.inputs = s.inputs ∧ (barrierResetRule x0 s).1.recent = s.recent ∧
    (barrierResetRule x0 s).1.readerErrors = s.readerErrors ∧ (barrierResetRule x0 s).1.tables = s.tables ∧
    (barrierResetRule x0 s).1.tickets = s.tickets ∧ (barrierResetRule x0 s).1.time = s.time ∧
    (barrierResetRule x0 s).1.watch = s.watch ∧ (barrierResetRule x0 s).1.settings = s.settings ∧
    (barrierResetRule x0 s).1.freeCount = s.freeCount ∧ (barrierResetRule x0 s).1.pending = s.pending := by
  unfold barrierResetRule accept refuse
  (try dsimp only); (repeat' split) <;> (try simp) <;> (try (split <;> simp))

@[simp] theorem platRead_frame (x0 : Platform) (x1 : Text) (s : State) :
    (platRead x0 x1 s).part = s.part ∧ (platRead x0 x1 s).intakes = s.intakes ∧ (platRead x0 x1 s).sync = s.sync ∧
    (platRead x0 x1 s).chains = s.chains ∧ (platRead x0 x1 s).nextCapture = s.nextCapture ∧
    (platRead x0 x1 s).inputs = s.inputs ∧ (platRead x0 x1 s).recent = s.recent ∧
    (platRead x0 x1 s).readerErrors = s.readerErrors ∧ (platRead x0 x1 s).gates = s.gates ∧
    (platRead x0 x1 s).alloc = s.alloc ∧ (platRead x0 x1 s).tables = s.tables ∧ (platRead x0 x1 s).visits = s.visits ∧
    (platRead x0 x1 s).tickets = s.tickets ∧ (platRead x0 x1 s).time = s.time ∧ (platRead x0 x1 s).watch = s.watch ∧
    (platRead x0 x1 s).settings = s.settings ∧ (platRead x0 x1 s).freeCount = s.freeCount ∧
    (platRead x0 x1 s).pending = s.pending := by
  unfold platRead
  (try dsimp only); (repeat' split) <;> (try simp) <;> (try simp_all)

@[simp] theorem deckRead_frame (x0 : Reader) (x1 : Text) (s : State) :
    (deckRead x0 x1 s).part = s.part ∧ (deckRead x0 x1 s).intakes = s.intakes ∧ (deckRead x0 x1 s).sync = s.sync ∧
    (deckRead x0 x1 s).chains = s.chains ∧ (deckRead x0 x1 s).nextCapture = s.nextCapture ∧
    (deckRead x0 x1 s).inputs = s.inputs ∧ (deckRead x0 x1 s).recent = s.recent ∧
    (deckRead x0 x1 s).readerErrors = s.readerErrors ∧ (deckRead x0 x1 s).gates = s.gates ∧
    (deckRead x0 x1 s).alloc = s.alloc ∧ (deckRead x0 x1 s).tables = s.tables ∧ (deckRead x0 x1 s).visits = s.visits ∧
    (deckRead x0 x1 s).tickets = s.tickets ∧ (deckRead x0 x1 s).time = s.time ∧ (deckRead x0 x1 s).watch = s.watch ∧
    (deckRead x0 x1 s).settings = s.settings ∧ (deckRead x0 x1 s).freeCount = s.freeCount ∧
    (deckRead x0 x1 s).pending = s.pending := by
  unfold deckRead
  (try dsimp only); (repeat' split) <;> (try simp) <;> (try simp_all)

@[simp] theorem dispatchRead_frame (x0 : Reader) (x1 : Text) (s : State) :
    (dispatchRead x0 x1 s).part = s.part ∧ (dispatchRead x0 x1 s).intakes = s.intakes ∧
    (dispatchRead x0 x1 s).sync = s.sync ∧ (dispatchRead x0 x1 s).chains = s.chains ∧
    (dispatchRead x0 x1 s).nextCapture = s.nextCapture ∧ (dispatchRead x0 x1 s).inputs = s.inputs ∧
    (dispatchRead x0 x1 s).recent = s.recent ∧ (dispatchRead x0 x1 s).readerErrors = s.readerErrors ∧
    (dispatchRead x0 x1 s).tickets = s.tickets ∧ (dispatchRead x0 x1 s).time = s.time ∧
    (dispatchRead x0 x1 s).watch = s.watch ∧ (dispatchRead x0 x1 s).settings = s.settings ∧
    (dispatchRead x0 x1 s).freeCount = s.freeCount ∧ (dispatchRead x0 x1 s).pending = s.pending := by
  unfold dispatchRead
  (try dsimp only); (repeat' split) <;> (try simp) <;> (try simp_all)

@[simp] theorem takeReport_frame (x0 : Reader) (x1 : Text) (s : State) :
    (takeReport x0 x1 s).part = s.part ∧ (takeReport x0 x1 s).intakes = s.intakes ∧ (takeReport x0 x1 s).sync = s.sync ∧
    (takeReport x0 x1 s).chains = s.chains ∧ (takeReport x0 x1 s).nextCapture = s.nextCapture ∧
    (takeReport x0 x1 s).inputs = s.inputs ∧ (takeReport x0 x1 s).readerErrors = s.readerErrors ∧
    (takeReport x0 x1 s).tickets = s.tickets ∧ (takeReport x0 x1 s).time = s.time ∧ (takeReport x0 x1 s).watch = s.watch ∧
    (takeReport x0 x1 s).settings = s.settings ∧ (takeReport x0 x1 s).freeCount = s.freeCount ∧
    (takeReport x0 x1 s).pending = s.pending := by
  unfold takeReport
  (try dsimp only); (repeat' split) <;> (try simp) <;> (try simp_all)

@[simp] theorem countReaderError_frame (s : State) :
    (countReaderError s).part = s.part ∧ (countReaderError s).intakes = s.intakes ∧ (countReaderError s).sync = s.sync ∧
    (countReaderError s).chains = s.chains ∧ (countReaderError s).nextCapture = s.nextCapture ∧
    (countReaderError s).inputs = s.inputs ∧ (countReaderError s).drives = s.drives ∧
    (countReaderError s).beacons = s.beacons ∧ (countReaderError s).bars = s.bars ∧ (countReaderError s).recent = s.recent ∧
    (countReaderError s).gates = s.gates ∧ (countReaderError s).plat = s.plat ∧ (countReaderError s).alloc = s.alloc ∧
    (countReaderError s).tables = s.tables ∧ (countReaderError s).visits = s.visits ∧
    (countReaderError s).tickets = s.tickets ∧ (countReaderError s).time = s.time ∧ (countReaderError s).watch = s.watch ∧
    (countReaderError s).link = s.link ∧ (countReaderError s).settings = s.settings ∧
    (countReaderError s).freeCount = s.freeCount ∧ (countReaderError s).pending = s.pending := by
  unfold countReaderError
  (try dsimp only); (repeat' split) <;> (try simp) <;> (try simp_all)

@[simp] theorem reportEnds_frame (x0 : List RxByte) (x1 : Bool) (s : State) :
    (reportEnds x0 x1 s).part = s.part ∧ (reportEnds x0 x1 s).intakes = s.intakes ∧ (reportEnds x0 x1 s).sync = s.sync ∧
    (reportEnds x0 x1 s).chains = s.chains ∧ (reportEnds x0 x1 s).nextCapture = s.nextCapture ∧
    (reportEnds x0 x1 s).inputs = s.inputs ∧ (reportEnds x0 x1 s).tickets = s.tickets ∧ (reportEnds x0 x1 s).time = s.time ∧
    (reportEnds x0 x1 s).watch = s.watch ∧ (reportEnds x0 x1 s).settings = s.settings ∧
    (reportEnds x0 x1 s).freeCount = s.freeCount ∧ (reportEnds x0 x1 s).pending = s.pending := by
  unfold reportEnds
  (try dsimp only); (repeat' split) <;> (try simp) <;> (try simp_all)

@[simp] theorem reportAbandoned_frame (x0 : Bool) (s : State) :
    (reportAbandoned x0 s).part = s.part ∧ (reportAbandoned x0 s).intakes = s.intakes ∧ (reportAbandoned x0 s).sync = s.sync ∧
    (reportAbandoned x0 s).chains = s.chains ∧ (reportAbandoned x0 s).nextCapture = s.nextCapture ∧
    (reportAbandoned x0 s).inputs = s.inputs ∧ (reportAbandoned x0 s).drives = s.drives ∧
    (reportAbandoned x0 s).beacons = s.beacons ∧ (reportAbandoned x0 s).bars = s.bars ∧ (reportAbandoned x0 s).recent = s.recent ∧
    (reportAbandoned x0 s).gates = s.gates ∧ (reportAbandoned x0 s).plat = s.plat ∧ (reportAbandoned x0 s).alloc = s.alloc ∧
    (reportAbandoned x0 s).tables = s.tables ∧ (reportAbandoned x0 s).visits = s.visits ∧
    (reportAbandoned x0 s).tickets = s.tickets ∧ (reportAbandoned x0 s).time = s.time ∧ (reportAbandoned x0 s).watch = s.watch ∧
    (reportAbandoned x0 s).link = s.link ∧ (reportAbandoned x0 s).settings = s.settings ∧
    (reportAbandoned x0 s).freeCount = s.freeCount ∧ (reportAbandoned x0 s).pending = s.pending := by
  unfold reportAbandoned
  (try dsimp only); (repeat' split) <;> (try simp) <;> (try simp_all)

@[simp] theorem repeatHoldFires_frame (x0 : Reader) (s : State) :
    (repeatHoldFires x0 s).part = s.part ∧ (repeatHoldFires x0 s).intakes = s.intakes ∧
    (repeatHoldFires x0 s).sync = s.sync ∧ (repeatHoldFires x0 s).chains = s.chains ∧
    (repeatHoldFires x0 s).nextCapture = s.nextCapture ∧ (repeatHoldFires x0 s).inputs = s.inputs ∧
    (repeatHoldFires x0 s).drives = s.drives ∧ (repeatHoldFires x0 s).beacons = s.beacons ∧
    (repeatHoldFires x0 s).bars = s.bars ∧ (repeatHoldFires x0 s).readerErrors = s.readerErrors ∧
    (repeatHoldFires x0 s).gates = s.gates ∧ (repeatHoldFires x0 s).plat = s.plat ∧ (repeatHoldFires x0 s).alloc = s.alloc ∧
    (repeatHoldFires x0 s).tables = s.tables ∧ (repeatHoldFires x0 s).visits = s.visits ∧
    (repeatHoldFires x0 s).tickets = s.tickets ∧ (repeatHoldFires x0 s).time = s.time ∧
    (repeatHoldFires x0 s).watch = s.watch ∧ (repeatHoldFires x0 s).link = s.link ∧
    (repeatHoldFires x0 s).settings = s.settings ∧ (repeatHoldFires x0 s).freeCount = s.freeCount ∧
    (repeatHoldFires x0 s).pending = s.pending := by
  unfold repeatHoldFires
  (try dsimp only); (repeat' split) <;> (try simp) <;> (try simp_all)

end Sys2Proof.Machine
end

