-- ==== Sys2Proof/Laws/FramesIntake.lean ====
section
/-! SUPPORT. Frames: the parts of the state that each operation leaves as they are, for intakes, platform events, tables, visits and printing. -/

set_option linter.unusedTactic false
set_option linter.unreachableTactic false
set_option linter.unnecessarySeqFocus false

namespace Sys2Proof.Machine

@[simp] theorem cellNotice_frame (x0 : Deck) (x1 : Nat) (x2 : CellEvent) (s : State) :
    (cellNotice x0 x1 x2 s).part = s.part ∧ (cellNotice x0 x1 x2 s).intakes = s.intakes ∧
    (cellNotice x0 x1 x2 s).sync = s.sync ∧ (cellNotice x0 x1 x2 s).chains = s.chains ∧
    (cellNotice x0 x1 x2 s).nextCapture = s.nextCapture ∧ (cellNotice x0 x1 x2 s).inputs = s.inputs ∧
    (cellNotice x0 x1 x2 s).drives = s.drives ∧ (cellNotice x0 x1 x2 s).beacons = s.beacons ∧
    (cellNotice x0 x1 x2 s).bars = s.bars ∧ (cellNotice x0 x1 x2 s).recent = s.recent ∧
    (cellNotice x0 x1 x2 s).readerErrors = s.readerErrors ∧ (cellNotice x0 x1 x2 s).gates = s.gates ∧
    (cellNotice x0 x1 x2 s).plat = s.plat ∧ (cellNotice x0 x1 x2 s).alloc = s.alloc ∧
    (cellNotice x0 x1 x2 s).tables = s.tables ∧ (cellNotice x0 x1 x2 s).visits = s.visits ∧
    (cellNotice x0 x1 x2 s).tickets = s.tickets ∧ (cellNotice x0 x1 x2 s).time = s.time ∧
    (cellNotice x0 x1 x2 s).watch = s.watch ∧ (cellNotice x0 x1 x2 s).settings = s.settings ∧
    (cellNotice x0 x1 x2 s).freeCount = s.freeCount ∧ (cellNotice x0 x1 x2 s).pending = s.pending := by
  unfold cellNotice
  (try dsimp only); (repeat' split) <;> (try simp) <;> (try simp_all)

@[simp] theorem cellNotices_frame (x0 : Deck) (x1 : Nat) (x2 : List CellEvent) (s : State) :
    (cellNotices x0 x1 x2 s).part = s.part ∧ (cellNotices x0 x1 x2 s).intakes = s.intakes ∧
    (cellNotices x0 x1 x2 s).sync = s.sync ∧ (cellNotices x0 x1 x2 s).chains = s.chains ∧
    (cellNotices x0 x1 x2 s).nextCapture = s.nextCapture ∧ (cellNotices x0 x1 x2 s).inputs = s.inputs ∧
    (cellNotices x0 x1 x2 s).drives = s.drives ∧ (cellNotices x0 x1 x2 s).beacons = s.beacons ∧
    (cellNotices x0 x1 x2 s).bars = s.bars ∧ (cellNotices x0 x1 x2 s).recent = s.recent ∧
    (cellNotices x0 x1 x2 s).readerErrors = s.readerErrors ∧ (cellNotices x0 x1 x2 s).gates = s.gates ∧
    (cellNotices x0 x1 x2 s).plat = s.plat ∧ (cellNotices x0 x1 x2 s).alloc = s.alloc ∧
    (cellNotices x0 x1 x2 s).tables = s.tables ∧ (cellNotices x0 x1 x2 s).visits = s.visits ∧
    (cellNotices x0 x1 x2 s).tickets = s.tickets ∧ (cellNotices x0 x1 x2 s).time = s.time ∧
    (cellNotices x0 x1 x2 s).watch = s.watch ∧ (cellNotices x0 x1 x2 s).settings = s.settings ∧
    (cellNotices x0 x1 x2 s).freeCount = s.freeCount ∧ (cellNotices x0 x1 x2 s).pending = s.pending := by
  induction x2 generalizing x1 s with
  | nil => simp [cellNotices]
  | cons e es ih => simp [cellNotices, ih]

@[simp] theorem linkEnters_frame (x0 : Deck) (s : State) :
    (linkEnters x0 s).part = s.part ∧ (linkEnters x0 s).nextCapture = s.nextCapture ∧ (linkEnters x0 s).inputs = s.inputs ∧
    (linkEnters x0 s).drives = s.drives ∧ (linkEnters x0 s).beacons = s.beacons ∧ (linkEnters x0 s).bars = s.bars ∧
    (linkEnters x0 s).recent = s.recent ∧ (linkEnters x0 s).readerErrors = s.readerErrors ∧
    (linkEnters x0 s).gates = s.gates ∧ (linkEnters x0 s).plat = s.plat ∧ (linkEnters x0 s).alloc = s.alloc ∧
    (linkEnters x0 s).tables = s.tables ∧ (linkEnters x0 s).visits = s.visits ∧ (linkEnters x0 s).tickets = s.tickets ∧
    (linkEnters x0 s).time = s.time ∧ (linkEnters x0 s).watch = s.watch ∧ (linkEnters x0 s).settings = s.settings ∧
    (linkEnters x0 s).freeCount = s.freeCount ∧ (linkEnters x0 s).pending = s.pending := by
  unfold linkEnters
  (try dsimp only); (repeat' split) <;> (try simp) <;> (try simp_all)

@[simp] theorem counterCheck_frame (x0 : Deck) (x1 : Bool) (x2 : Byte) (s : State) :
    (counterCheck x0 x1 x2 s).part = s.part ∧ (counterCheck x0 x1 x2 s).sync = s.sync ∧
    (counterCheck x0 x1 x2 s).chains = s.chains ∧ (counterCheck x0 x1 x2 s).nextCapture = s.nextCapture ∧
    (counterCheck x0 x1 x2 s).inputs = s.inputs ∧ (counterCheck x0 x1 x2 s).drives = s.drives ∧
    (counterCheck x0 x1 x2 s).beacons = s.beacons ∧ (counterCheck x0 x1 x2 s).bars = s.bars ∧
    (counterCheck x0 x1 x2 s).recent = s.recent ∧ (counterCheck x0 x1 x2 s).readerErrors = s.readerErrors ∧
    (counterCheck x0 x1 x2 s).gates = s.gates ∧ (counterCheck x0 x1 x2 s).plat = s.plat ∧
    (counterCheck x0 x1 x2 s).alloc = s.alloc ∧ (counterCheck x0 x1 x2 s).tables = s.tables ∧
    (counterCheck x0 x1 x2 s).visits = s.visits ∧ (counterCheck x0 x1 x2 s).tickets = s.tickets ∧
    (counterCheck x0 x1 x2 s).time = s.time ∧ (counterCheck x0 x1 x2 s).watch = s.watch ∧
    (counterCheck x0 x1 x2 s).link = s.link ∧ (counterCheck x0 x1 x2 s).settings = s.settings ∧
    (counterCheck x0 x1 x2 s).freeCount = s.freeCount ∧ (counterCheck x0 x1 x2 s).pending = s.pending := by
  unfold counterCheck
  (try dsimp only); (repeat' split) <;> (try simp) <;> (try simp_all)

@[simp] theorem supervise_frame (x0 : Deck) (x1 : RawFrame) (s : State) :
    (supervise x0 x1 s).2.part = s.part ∧ (supervise x0 x1 s).2.sync = s.sync ∧ (supervise x0 x1 s).2.chains = s.chains ∧
    (supervise x0 x1 s).2.nextCapture = s.nextCapture ∧ (supervise x0 x1 s).2.inputs = s.inputs ∧
    (supervise x0 x1 s).2.drives = s.drives ∧ (supervise x0 x1 s).2.beacons = s.beacons ∧
    (supervise x0 x1 s).2.bars = s.bars ∧ (supervise x0 x1 s).2.recent = s.recent ∧
    (supervise x0 x1 s).2.readerErrors = s.readerErrors ∧ (supervise x0 x1 s).2.gates = s.gates ∧
    (supervise x0 x1 s).2.plat = s.plat ∧ (supervise x0 x1 s).2.alloc = s.alloc ∧ (supervise x0 x1 s).2.tables = s.tables ∧
    (supervise x0 x1 s).2.visits = s.visits ∧ (supervise x0 x1 s).2.tickets = s.tickets ∧
    (supervise x0 x1 s).2.time = s.time ∧ (supervise x0 x1 s).2.watch = s.watch ∧
    (supervise x0 x1 s).2.settings = s.settings ∧ (supervise x0 x1 s).2.freeCount = s.freeCount ∧
    (supervise x0 x1 s).2.pending = s.pending := by
  unfold supervise
  (try dsimp only); (repeat' split) <;> (try simp) <;> (try simp_all)

@[simp] theorem refillEnded_frame (x0 : Deck) (s : State) :
    (refillEnded x0 s).part = s.part ∧ (refillEnded x0 s).intakes = s.intakes ∧ (refillEnded x0 s).sync = s.sync ∧
    (refillEnded x0 s).nextCapture = s.nextCapture ∧ (refillEnded x0 s).inputs = s.inputs ∧
    (refillEnded x0 s).drives = s.drives ∧ (refillEnded x0 s).beacons = s.beacons ∧ (refillEnded x0 s).bars = s.bars ∧
    (refillEnded x0 s).recent = s.recent ∧ (refillEnded x0 s).readerErrors = s.readerErrors ∧
    (refillEnded x0 s).gates = s.gates ∧ (refillEnded x0 s).plat = s.plat ∧ (refillEnded x0 s).alloc = s.alloc ∧
    (refillEnded x0 s).tables = s.tables ∧ (refillEnded x0 s).visits = s.visits ∧ (refillEnded x0 s).tickets = s.tickets ∧
    (refillEnded x0 s).time = s.time ∧ (refillEnded x0 s).watch = s.watch ∧ (refillEnded x0 s).link = s.link ∧
    (refillEnded x0 s).settings = s.settings ∧ (refillEnded x0 s).freeCount = s.freeCount ∧
    (refillEnded x0 s).pending = s.pending := by
  unfold refillEnded
  (try dsimp only); (repeat' split) <;> (try simp) <;> (try simp_all)

@[simp] theorem intakeFrame_frame (x0 : Deck) (x1 : FrameEntry) (s : State) :
    (intakeFrame x0 x1 s).part = s.part ∧ (intakeFrame x0 x1 s).nextCapture = s.nextCapture ∧
    (intakeFrame x0 x1 s).inputs = s.inputs ∧ (intakeFrame x0 x1 s).drives = s.drives ∧
    (intakeFrame x0 x1 s).beacons = s.beacons ∧ (intakeFrame x0 x1 s).bars = s.bars ∧
    (intakeFrame x0 x1 s).recent = s.recent ∧ (intakeFrame x0 x1 s).readerErrors = s.readerErrors ∧
    (intakeFrame x0 x1 s).gates = s.gates ∧ (intakeFrame x0 x1 s).plat = s.plat ∧ (intakeFrame x0 x1 s).alloc = s.alloc ∧
    (intakeFrame x0 x1 s).tables = s.tables ∧ (intakeFrame x0 x1 s).visits = s.visits ∧
    (intakeFrame x0 x1 s).tickets = s.tickets ∧ (intakeFrame x0 x1 s).time = s.time ∧
    (intakeFrame x0 x1 s).watch = s.watch ∧ (intakeFrame x0 x1 s).link = s.link ∧
    (intakeFrame x0 x1 s).settings = s.settings ∧ (intakeFrame x0 x1 s).freeCount = s.freeCount ∧
    (intakeFrame x0 x1 s).pending = s.pending := by
  unfold intakeFrame
  (try dsimp only); (repeat' split) <;> (try simp) <;> (try simp_all)

@[simp] theorem goodFrame_frame (x0 : Deck) (x1 : RawFrame) (s : State) :
    (goodFrame x0 x1 s).part = s.part ∧ (goodFrame x0 x1 s).nextCapture = s.nextCapture ∧
    (goodFrame x0 x1 s).inputs = s.inputs ∧ (goodFrame x0 x1 s).drives = s.drives ∧
    (goodFrame x0 x1 s).beacons = s.beacons ∧ (goodFrame x0 x1 s).bars = s.bars ∧ (goodFrame x0 x1 s).recent = s.recent ∧
    (goodFrame x0 x1 s).readerErrors = s.readerErrors ∧ (goodFrame x0 x1 s).gates = s.gates ∧
    (goodFrame x0 x1 s).plat = s.plat ∧ (goodFrame x0 x1 s).alloc = s.alloc ∧ (goodFrame x0 x1 s).tables = s.tables ∧
    (goodFrame x0 x1 s).visits = s.visits ∧ (goodFrame x0 x1 s).tickets = s.tickets ∧ (goodFrame x0 x1 s).time = s.time ∧
    (goodFrame x0 x1 s).watch = s.watch ∧ (goodFrame x0 x1 s).settings = s.settings ∧
    (goodFrame x0 x1 s).freeCount = s.freeCount ∧ (goodFrame x0 x1 s).pending = s.pending := by
  unfold goodFrame
  (try dsimp only); (repeat' split) <;> (try simp) <;> (try simp_all)

@[simp] theorem burstEnds_frame (x0 : Deck) (x1 : List RxByte) (s : State) :
    (burstEnds x0 x1 s).part = s.part ∧ (burstEnds x0 x1 s).nextCapture = s.nextCapture ∧
    (burstEnds x0 x1 s).inputs = s.inputs ∧ (burstEnds x0 x1 s).drives = s.drives ∧
    (burstEnds x0 x1 s).beacons = s.beacons ∧ (burstEnds x0 x1 s).bars = s.bars ∧ (burstEnds x0 x1 s).recent = s.recent ∧
    (burstEnds x0 x1 s).readerErrors = s.readerErrors ∧ (burstEnds x0 x1 s).gates = s.gates ∧
    (burstEnds x0 x1 s).plat = s.plat ∧ (burstEnds x0 x1 s).alloc = s.alloc ∧ (burstEnds x0 x1 s).tables = s.tables ∧
    (burstEnds x0 x1 s).visits = s.visits ∧ (burstEnds x0 x1 s).tickets = s.tickets ∧ (burstEnds x0 x1 s).time = s.time ∧
    (burstEnds x0 x1 s).watch = s.watch ∧ (burstEnds x0 x1 s).settings = s.settings ∧
    (burstEnds x0 x1 s).freeCount = s.freeCount ∧ (burstEnds x0 x1 s).pending = s.pending := by
  unfold burstEnds
  (try dsimp only); (repeat' split) <;> (try simp) <;> (try simp_all)

@[simp] theorem linkLeaves_frame (x0 : Deck) (s : State) :
    (linkLeaves x0 s).part = s.part ∧ (linkLeaves x0 s).sync = s.sync ∧ (linkLeaves x0 s).nextCapture = s.nextCapture ∧
    (linkLeaves x0 s).inputs = s.inputs ∧ (linkLeaves x0 s).drives = s.drives ∧ (linkLeaves x0 s).beacons = s.beacons ∧
    (linkLeaves x0 s).bars = s.bars ∧ (linkLeaves x0 s).recent = s.recent ∧
    (linkLeaves x0 s).readerErrors = s.readerErrors ∧ (linkLeaves x0 s).gates = s.gates ∧ (linkLeaves x0 s).plat = s.plat ∧
    (linkLeaves x0 s).alloc = s.alloc ∧ (linkLeaves x0 s).tables = s.tables ∧ (linkLeaves x0 s).visits = s.visits ∧
    (linkLeaves x0 s).tickets = s.tickets ∧ (linkLeaves x0 s).time = s.time ∧ (linkLeaves x0 s).watch = s.watch ∧
    (linkLeaves x0 s).link = s.link ∧ (linkLeaves x0 s).settings = s.settings ∧ (linkLeaves x0 s).freeCount = s.freeCount ∧
    (linkLeaves x0 s).pending = s.pending := by
  unfold linkLeaves
  (try dsimp only); (repeat' split) <;> (try simp) <;> (try simp_all)

@[simp] theorem frameTimerFires_frame (x0 : Deck) (s : State) :
    (frameTimerFires x0 s).part = s.part ∧ (frameTimerFires x0 s).sync = s.sync ∧
    (frameTimerFires x0 s).nextCapture = s.nextCapture ∧ (frameTimerFires x0 s).inputs = s.inputs ∧
    (frameTimerFires x0 s).drives = s.drives ∧ (frameTimerFires x0 s).beacons = s.beacons ∧
    (frameTimerFires x0 s).bars = s.bars ∧ (frameTimerFires x0 s).recent = s.recent ∧
    (frameTimerFires x0 s).readerErrors = s.readerErrors ∧ (frameTimerFires x0 s).gates = s.gates ∧
    (frameTimerFires x0 s).plat = s.plat ∧ (frameTimerFires x0 s).alloc = s.alloc ∧
    (frameTimerFires x0 s).tables = s.tables ∧ (frameTimerFires x0 s).visits = s.visits ∧
    (frameTimerFires x0 s).tickets = s.tickets ∧ (frameTimerFires x0 s).time = s.time ∧
    (frameTimerFires x0 s).watch = s.watch ∧ (frameTimerFires x0 s).settings = s.settings ∧
    (frameTimerFires x0 s).freeCount = s.freeCount ∧ (frameTimerFires x0 s).pending = s.pending := by
  unfold frameTimerFires
  (try dsimp only); (repeat' split) <;> (try simp) <;> (try simp_all)

@[simp] theorem syncPulseEnds_frame (s : State) :
    (syncPulseEnds s).part = s.part ∧ (syncPulseEnds s).intakes = s.intakes ∧ (syncPulseEnds s).chains = s.chains ∧
    (syncPulseEnds s).nextCapture = s.nextCapture ∧ (syncPulseEnds s).inputs = s.inputs ∧
    (syncPulseEnds s).drives = s.drives ∧ (syncPulseEnds s).beacons = s.beacons ∧ (syncPulseEnds s).bars = s.bars ∧
    (syncPulseEnds s).recent = s.recent ∧ (syncPulseEnds s).readerErrors = s.readerErrors ∧
    (syncPulseEnds s).gates = s.gates ∧ (syncPulseEnds s).plat = s.plat ∧ (syncPulseEnds s).alloc = s.alloc ∧
    (syncPulseEnds s).tables = s.tables ∧ (syncPulseEnds s).visits = s.visits ∧ (syncPulseEnds s).tickets = s.tickets ∧
    (syncPulseEnds s).time = s.time ∧ (syncPulseEnds s).watch = s.watch ∧ (syncPulseEnds s).link = s.link ∧
    (syncPulseEnds s).settings = s.settings ∧ (syncPulseEnds s).freeCount = s.freeCount ∧
    (syncPulseEnds s).pending = s.pending := by
  unfold syncPulseEnds
  (try dsimp only); (repeat' split) <;> (try simp) <;> (try simp_all)

@[simp] theorem captureSuccess_frame (x0 : Platform) (x1 : Int) (s : State) :
    (captureSuccess x0 x1 s).part = s.part ∧ (captureSuccess x0 x1 s).intakes = s.intakes ∧
    (captureSuccess x0 x1 s).sync = s.sync ∧ (captureSuccess x0 x1 s).inputs = s.inputs ∧
    (captureSuccess x0 x1 s).recent = s.recent ∧ (captureSuccess x0 x1 s).readerErrors = s.readerErrors ∧
    (captureSuccess x0 x1 s).gates = s.gates ∧ (captureSuccess x0 x1 s).alloc = s.alloc ∧
    (captureSuccess x0 x1 s).time = s.time ∧ (captureSuccess x0 x1 s).watch = s.watch ∧
    (captureSuccess x0 x1 s).settings = s.settings ∧ (captureSuccess x0 x1 s).freeCount = s.freeCount ∧
    (captureSuccess x0 x1 s).pending = s.pending := by
  unfold captureSuccess
  (try dsimp only); (repeat' split) <;> (try simp) <;> (try simp_all)

@[simp] theorem judgeCapture_frame (x0 : Platform) (s : State) :
    (judgeCapture x0 s).part = s.part ∧ (judgeCapture x0 s).intakes = s.intakes ∧ (judgeCapture x0 s).sync = s.sync ∧
    (judgeCapture x0 s).inputs = s.inputs ∧ (judgeCapture x0 s).recent = s.recent ∧
    (judgeCapture x0 s).readerErrors = s.readerErrors ∧ (judgeCapture x0 s).gates = s.gates ∧
    (judgeCapture x0 s).alloc = s.alloc ∧ (judgeCapture x0 s).time = s.time ∧ (judgeCapture x0 s).watch = s.watch ∧
    (judgeCapture x0 s).settings = s.settings ∧ (judgeCapture x0 s).freeCount = s.freeCount ∧
    (judgeCapture x0 s).pending = s.pending := by
  unfold judgeCapture
  (try dsimp only); (repeat' split) <;> (try simp) <;> (try simp_all)

@[simp] theorem produce_frame (x0 : Platform) (x1 : Int) (x2 : Bool) (x3 : Bool) (s : State) :
    (produce x0 x1 x2 x3 s).part = s.part ∧ (produce x0 x1 x2 x3 s).intakes = s.intakes ∧
    (produce x0 x1 x2 x3 s).sync = s.sync ∧ (produce x0 x1 x2 x3 s).inputs = s.inputs ∧
    (produce x0 x1 x2 x3 s).recent = s.recent ∧ (produce x0 x1 x2 x3 s).readerErrors = s.readerErrors ∧
    (produce x0 x1 x2 x3 s).gates = s.gates ∧ (produce x0 x1 x2 x3 s).alloc = s.alloc ∧
    (produce x0 x1 x2 x3 s).time = s.time ∧ (produce x0 x1 x2 x3 s).watch = s.watch ∧
    (produce x0 x1 x2 x3 s).settings = s.settings ∧ (produce x0 x1 x2 x3 s).freeCount = s.freeCount ∧
    (produce x0 x1 x2 x3 s).pending = s.pending := by
  unfold produce
  (try dsimp only); (repeat' split) <;> (try simp) <;> (try simp_all)

@[simp] theorem consumeFrame_frame (x0 : Deck) (s : State) :
    (consumeFrame x0 s).part = s.part ∧ (consumeFrame x0 s).sync = s.sync ∧ (consumeFrame x0 s).inputs = s.inputs ∧
    (consumeFrame x0 s).recent = s.recent ∧ (consumeFrame x0 s).readerErrors = s.readerErrors ∧
    (consumeFrame x0 s).gates = s.gates ∧ (consumeFrame x0 s).alloc = s.alloc ∧ (consumeFrame x0 s).time = s.time ∧
    (consumeFrame x0 s).watch = s.watch ∧ (consumeFrame x0 s).settings = s.settings ∧
    (consumeFrame x0 s).freeCount = s.freeCount ∧ (consumeFrame x0 s).pending = s.pending := by
  unfold consumeFrame
  (try dsimp only); (repeat' split) <;> (try simp) <;> (try simp_all)

@[simp] theorem slipHead_frame (x0 : Deck) (s : State) :
    (slipHead x0 s).part = s.part ∧ (slipHead x0 s).sync = s.sync ∧ (slipHead x0 s).chains = s.chains ∧
    (slipHead x0 s).nextCapture = s.nextCapture ∧ (slipHead x0 s).inputs = s.inputs ∧ (slipHead x0 s).drives = s.drives ∧
    (slipHead x0 s).beacons = s.beacons ∧ (slipHead x0 s).bars = s.bars ∧ (slipHead x0 s).recent = s.recent ∧
    (slipHead x0 s).readerErrors = s.readerErrors ∧ (slipHead x0 s).gates = s.gates ∧ (slipHead x0 s).plat = s.plat ∧
    (slipHead x0 s).alloc = s.alloc ∧ (slipHead x0 s).tables = s.tables ∧ (slipHead x0 s).visits = s.visits ∧
    (slipHead x0 s).tickets = s.tickets ∧ (slipHead x0 s).time = s.time ∧ (slipHead x0 s).watch = s.watch ∧
    (slipHead x0 s).link = s.link ∧ (slipHead x0 s).settings = s.settings ∧ (slipHead x0 s).freeCount = s.freeCount ∧
    (slipHead x0 s).pending = s.pending := by
  unfold slipHead
  (try dsimp only); (repeat' split) <;> (try simp) <;> (try simp_all)

@[simp] theorem consumePair_frame (s : State) :
    (consumePair s).part = s.part ∧ (consumePair s).sync = s.sync ∧ (consumePair s).inputs = s.inputs ∧
    (consumePair s).recent = s.recent ∧ (consumePair s).readerErrors = s.readerErrors ∧ (consumePair s).gates = s.gates ∧
    (consumePair s).alloc = s.alloc ∧ (consumePair s).time = s.time ∧ (consumePair s).watch = s.watch ∧
    (consumePair s).settings = s.settings ∧ (consumePair s).freeCount = s.freeCount ∧
    (consumePair s).pending = s.pending := by
  unfold consumePair
  (try dsimp only); (repeat' split) <;> (try simp) <;> (try simp_all)

@[simp] theorem captureFires_frame (x0 : Platform) (s : State) :
    (captureFires x0 s).part = s.part ∧ (captureFires x0 s).intakes = s.intakes ∧ (captureFires x0 s).sync = s.sync ∧
    (captureFires x0 s).nextCapture = s.nextCapture ∧ (captureFires x0 s).inputs = s.inputs ∧
    (captureFires x0 s).recent = s.recent ∧ (captureFires x0 s).readerErrors = s.readerErrors ∧
    (captureFires x0 s).gates = s.gates ∧ (captureFires x0 s).alloc = s.alloc ∧ (captureFires x0 s).tables = s.tables ∧
    (captureFires x0 s).visits = s.visits ∧ (captureFires x0 s).tickets = s.tickets ∧ (captureFires x0 s).time = s.time ∧
    (captureFires x0 s).watch = s.watch ∧ (captureFires x0 s).settings = s.settings ∧
    (captureFires x0 s).freeCount = s.freeCount ∧ (captureFires x0 s).pending = s.pending := by
  unfold captureFires
  (try dsimp only); (repeat' split) <;> (try simp) <;> (try simp_all)

@[simp] theorem trackZero_frame (x0 : Platform) (s : State) :
    (trackZero x0 s).part = s.part ∧ (trackZero x0 s).intakes = s.intakes ∧ (trackZero x0 s).sync = s.sync ∧
    (trackZero x0 s).nextCapture = s.nextCapture ∧ (trackZero x0 s).inputs = s.inputs ∧ (trackZero x0 s).drives = s.drives ∧
    (trackZero x0 s).beacons = s.beacons ∧ (trackZero x0 s).bars = s.bars ∧ (trackZero x0 s).recent = s.recent ∧
    (trackZero x0 s).readerErrors = s.readerErrors ∧ (trackZero x0 s).gates = s.gates ∧ (trackZero x0 s).plat = s.plat ∧
    (trackZero x0 s).alloc = s.alloc ∧ (trackZero x0 s).tables = s.tables ∧ (trackZero x0 s).visits = s.visits ∧
    (trackZero x0 s).tickets = s.tickets ∧ (trackZero x0 s).time = s.time ∧ (trackZero x0 s).watch = s.watch ∧
    (trackZero x0 s).settings = s.settings ∧ (trackZero x0 s).freeCount = s.freeCount ∧
    (trackZero x0 s).pending = s.pending := by
  unfold trackZero
  (try dsimp only); (repeat' split) <;> (try simp) <;> (try simp_all)

@[simp] theorem trackZeros_frame (s : State) :
    (trackZeros s).part = s.part ∧ (trackZeros s).intakes = s.intakes ∧ (trackZeros s).sync = s.sync ∧
    (trackZeros s).nextCapture = s.nextCapture ∧ (trackZeros s).inputs = s.inputs ∧ (trackZeros s).drives = s.drives ∧
    (trackZeros s).beacons = s.beacons ∧ (trackZeros s).bars = s.bars ∧ (trackZeros s).recent = s.recent ∧
    (trackZeros s).readerErrors = s.readerErrors ∧ (trackZeros s).gates = s.gates ∧ (trackZeros s).plat = s.plat ∧
    (trackZeros s).alloc = s.alloc ∧ (trackZeros s).tables = s.tables ∧ (trackZeros s).visits = s.visits ∧
    (trackZeros s).tickets = s.tickets ∧ (trackZeros s).time = s.time ∧ (trackZeros s).watch = s.watch ∧
    (trackZeros s).settings = s.settings ∧ (trackZeros s).freeCount = s.freeCount ∧ (trackZeros s).pending = s.pending := by
  unfold trackZeros
  (try dsimp only); (repeat' split) <;> (try simp) <;> (try simp_all)

@[simp] theorem clearDiag_frame (s : State) :
    (clearDiag s).part = s.part ∧ (clearDiag s).sync = s.sync ∧ (clearDiag s).chains = s.chains ∧
    (clearDiag s).nextCapture = s.nextCapture ∧ (clearDiag s).inputs = s.inputs ∧ (clearDiag s).drives = s.drives ∧
    (clearDiag s).beacons = s.beacons ∧ (clearDiag s).bars = s.bars ∧ (clearDiag s).recent = s.recent ∧
    (clearDiag s).gates = s.gates ∧ (clearDiag s).plat = s.plat ∧ (clearDiag s).alloc = s.alloc ∧
    (clearDiag s).tables = s.tables ∧ (clearDiag s).visits = s.visits ∧ (clearDiag s).tickets = s.tickets ∧
    (clearDiag s).time = s.time ∧ (clearDiag s).watch = s.watch ∧ (clearDiag s).link = s.link ∧
    (clearDiag s).settings = s.settings ∧ (clearDiag s).freeCount = s.freeCount ∧ (clearDiag s).pending = s.pending := by
  unfold clearDiag
  (try dsimp only); (repeat' split) <;> (try simp) <;> (try simp_all)

@[simp] theorem diagRule_frame (x0 : List Text) (s : State) :
    (diagRule x0 s).1.part = s.part ∧ (diagRule x0 s).1.sync = s.sync ∧ (diagRule x0 s).1.chains = s.chains ∧
    (diagRule x0 s).1.nextCapture = s.nextCapture ∧ (diagRule x0 s).1.inputs = s.inputs ∧
    (diagRule x0 s).1.drives = s.drives ∧ (diagRule x0 s).1.beacons = s.beacons ∧ (diagRule x0 s).1.bars = s.bars ∧
    (diagRule x0 s).1.recent = s.recent ∧ (diagRule x0 s).1.gates = s.gates ∧ (diagRule x0 s).1.plat = s.plat ∧
    (diagRule x0 s).1.alloc = s.alloc ∧ (diagRule x0 s).1.tables = s.tables ∧ (diagRule x0 s).1.visits = s.visits ∧
    (diagRule x0 s).1.tickets = s.tickets ∧ (diagRule x0 s).1.time = s.time ∧ (diagRule x0 s).1.watch = s.watch ∧
    (diagRule x0 s).1.link = s.link ∧ (diagRule x0 s).1.settings = s.settings ∧ (diagRule x0 s).1.freeCount = s.freeCount ∧
    (diagRule x0 s).1.pending = s.pending := by
  unfold diagRule accept refuse
  (try dsimp only); (repeat' split) <;> (try simp) <;> (try (split <;> simp))

@[simp] theorem weightRule_frame (x0 : List Text) (s : State) :
    (weightRule x0 s).1.part = s.part ∧ (weightRule x0 s).1.intakes = s.intakes ∧ (weightRule x0 s).1.sync = s.sync ∧
    (weightRule x0 s).1.chains = s.chains ∧ (weightRule x0 s).1.nextCapture = s.nextCapture ∧
    (weightRule x0 s).1.inputs = s.inputs ∧ (weightRule x0 s).1.drives = s.drives ∧
    (weightRule x0 s).1.beacons = s.beacons ∧ (weightRule x0 s).1.bars = s.bars ∧ (weightRule x0 s).1.recent = s.recent ∧
    (weightRule x0 s).1.readerErrors = s.readerErrors ∧ (weightRule x0 s).1.gates = s.gates ∧
    (weightRule x0 s).1.plat = s.plat ∧ (weightRule x0 s).1.alloc = s.alloc ∧ (weightRule x0 s).1.tables = s.tables ∧
    (weightRule x0 s).1.visits = s.visits ∧ (weightRule x0 s).1.tickets = s.tickets ∧ (weightRule x0 s).1.time = s.time ∧
    (weightRule x0 s).1.watch = s.watch ∧ (weightRule x0 s).1.link = s.link ∧ (weightRule x0 s).1.settings = s.settings ∧
    (weightRule x0 s).1.freeCount = s.freeCount ∧ (weightRule x0 s).1.pending = s.pending := by
  unfold weightRule accept refuse
  (try dsimp only); (repeat' split) <;> (try simp) <;> (try (split <;> simp))

@[simp] theorem zeroRule_frame (x0 : List Text) (s : State) :
    (zeroRule x0 s).1.part = s.part ∧ (zeroRule x0 s).1.intakes = s.intakes ∧ (zeroRule x0 s).1.sync = s.sync ∧
    (zeroRule x0 s).1.nextCapture = s.nextCapture ∧ (zeroRule x0 s).1.inputs = s.inputs ∧
    (zeroRule x0 s).1.drives = s.drives ∧ (zeroRule x0 s).1.beacons = s.beacons ∧ (zeroRule x0 s).1.bars = s.bars ∧
    (zeroRule x0 s).1.recent = s.recent ∧ (zeroRule x0 s).1.readerErrors = s.readerErrors ∧
    (zeroRule x0 s).1.gates = s.gates ∧ (zeroRule x0 s).1.plat = s.plat ∧ (zeroRule x0 s).1.alloc = s.alloc ∧
    (zeroRule x0 s).1.tables = s.tables ∧ (zeroRule x0 s).1.visits = s.visits ∧ (zeroRule x0 s).1.tickets = s.tickets ∧
    (zeroRule x0 s).1.time = s.time ∧ (zeroRule x0 s).1.watch = s.watch ∧ (zeroRule x0 s).1.link = s.link ∧
    (zeroRule x0 s).1.settings = s.settings ∧ (zeroRule x0 s).1.freeCount = s.freeCount ∧
    (zeroRule x0 s).1.pending = s.pending := by
  unfold zeroRule accept refuse
  (try dsimp only); (repeat' split) <;> (try simp) <;> (try (split <;> simp))

@[simp] theorem grantArrives_frame (x0 : Platform) (s : State) :
    (grantArrives x0 s).part = s.part ∧ (grantArrives x0 s).intakes = s.intakes ∧ (grantArrives x0 s).sync = s.sync ∧
    (grantArrives x0 s).chains = s.chains ∧ (grantArrives x0 s).nextCapture = s.nextCapture ∧
    (grantArrives x0 s).inputs = s.inputs ∧ (grantArrives x0 s).drives = s.drives ∧ (grantArrives x0 s).bars = s.bars ∧
    (grantArrives x0 s).recent = s.recent ∧ (grantArrives x0 s).readerErrors = s.readerErrors ∧
    (grantArrives x0 s).gates = s.gates ∧ (grantArrives x0 s).tables = s.tables ∧ (grantArrives x0 s).tickets = s.tickets ∧
    (grantArrives x0 s).time = s.time ∧ (grantArrives x0 s).watch = s.watch ∧ (grantArrives x0 s).settings = s.settings ∧
    (grantArrives x0 s).freeCount = s.freeCount ∧ (grantArrives x0 s).pending = s.pending := by
  unfold grantArrives
  (try dsimp only); (repeat' split) <;> (try simp) <;> (try simp_all)

@[simp] theorem callFires_frame (x0 : Platform) (s : State) :
    (callFires x0 s).part = s.part ∧ (callFires x0 s).intakes = s.intakes ∧ (callFires x0 s).sync = s.sync ∧
    (callFires x0 s).chains = s.chains ∧ (callFires x0 s).nextCapture = s.nextCapture ∧ (callFires x0 s).inputs = s.inputs ∧
    (callFires x0 s).recent = s.recent ∧ (callFires x0 s).readerErrors = s.readerErrors ∧ (callFires x0 s).gates = s.gates ∧
    (callFires x0 s).tables = s.tables ∧ (callFires x0 s).tickets = s.tickets ∧ (callFires x0 s).time = s.time ∧
    (callFires x0 s).watch = s.watch ∧ (callFires x0 s).settings = s.settings ∧ (callFires x0 s).freeCount = s.freeCount ∧
    (callFires x0 s).pending = s.pending := by
  unfold callFires
  (try dsimp only); (repeat' split) <;> (try simp) <;> (try simp_all)

@[simp] theorem signSent_frame (s : State) :
    (signSent s).part = s.part ∧ (signSent s).intakes = s.intakes ∧ (signSent s).sync = s.sync ∧
    (signSent s).chains = s.chains ∧ (signSent s).nextCapture = s.nextCapture ∧ (signSent s).inputs = s.inputs ∧
    (signSent s).drives = s.drives ∧ (signSent s).beacons = s.beacons ∧ (signSent s).bars = s.bars ∧
    (signSent s).recent = s.recent ∧ (signSent s).readerErrors = s.readerErrors ∧ (signSent s).gates = s.gates ∧
    (signSent s).alloc = s.alloc ∧ (signSent s).tables = s.tables ∧ (signSent s).visits = s.visits ∧
    (signSent s).tickets = s.tickets ∧ (signSent s).time = s.time ∧ (signSent s).watch = s.watch ∧
    (signSent s).link = s.link ∧ (signSent s).settings = s.settings ∧ (signSent s).freeCount = s.freeCount ∧
    (signSent s).pending = s.pending := by
  unfold signSent
  (try dsimp only); (repeat' split) <;> (try simp) <;> (try simp_all)

@[simp] theorem resumeFrom_frame (x0 : Platform) (x1 : ResumePoint) (s : State) :
    (resumeFrom x0 x1 s).part = s.part ∧ (resumeFrom x0 x1 s).intakes = s.intakes ∧ (resumeFrom x0 x1 s).sync = s.sync ∧
    (resumeFrom x0 x1 s).nextCapture = s.nextCapture ∧ (resumeFrom x0 x1 s).inputs = s.inputs ∧
    (resumeFrom x0 x1 s).recent = s.recent ∧ (resumeFrom x0 x1 s).readerErrors = s.readerErrors ∧
    (resumeFrom x0 x1 s).gates = s.gates ∧ (resumeFrom x0 x1 s).tables = s.tables ∧
    (resumeFrom x0 x1 s).tickets = s.tickets ∧ (resumeFrom x0 x1 s).time = s.time ∧ (resumeFrom x0 x1 s).watch = s.watch ∧
    (resumeFrom x0 x1 s).settings = s.settings ∧ (resumeFrom x0 x1 s).freeCount = s.freeCount ∧
    (resumeFrom x0 x1 s).pending = s.pending := by
  unfold resumeFrom
  (try dsimp only); (repeat' split) <;> (try simp) <;> (try simp_all)

@[simp] theorem platformRetryRule_frame (x0 : List Text) (s : State) :
    (platformRetryRule x0 s).1.part = s.part ∧ (platformRetryRule x0 s).1.intakes = s.intakes ∧
    (platformRetryRule x0 s).1.sync = s.sync ∧ (platformRetryRule x0 s).1.nextCapture = s.nextCapture ∧
    (platformRetryRule x0 s).1.inputs = s.inputs ∧ (platformRetryRule x0 s).1.recent = s.recent ∧
    (platformRetryRule x0 s).1.readerErrors = s.readerErrors ∧ (platformRetryRule x0 s).1.gates = s.gates ∧
    (platformRetryRule x0 s).1.tables = s.tables ∧ (platformRetryRule x0 s).1.tickets = s.tickets ∧
    (platformRetryRule x0 s).1.time = s.time ∧ (platformRetryRule x0 s).1.watch = s.watch ∧
    (platformRetryRule x0 s).1.settings = s.settings ∧ (platformRetryRule x0 s).1.freeCount = s.freeCount ∧
    (platformRetryRule x0 s).1.pending = s.pending := by
  unfold platformRetryRule accept refuse
  (try dsimp only); (repeat' split) <;> (try simp) <;> (try (split <;> simp))

@[simp] theorem releaseVisit_frame (x0 : ReleaseAction) (x1 : Nat) (s : State) :
    (releaseVisit x0 x1 s).part = s.part ∧ (releaseVisit x0 x1 s).intakes = s.intakes ∧
    (releaseVisit x0 x1 s).sync = s.sync ∧ (releaseVisit x0 x1 s).chains = s.chains ∧
    (releaseVisit x0 x1 s).nextCapture = s.nextCapture ∧ (releaseVisit x0 x1 s).inputs = s.inputs ∧
    (releaseVisit x0 x1 s).drives = s.drives ∧ (releaseVisit x0 x1 s).beacons = s.beacons ∧
    (releaseVisit x0 x1 s).bars = s.bars ∧ (releaseVisit x0 x1 s).recent = s.recent ∧
    (releaseVisit x0 x1 s).readerErrors = s.readerErrors ∧ (releaseVisit x0 x1 s).gates = s.gates ∧
    (releaseVisit x0 x1 s).plat = s.plat ∧ (releaseVisit x0 x1 s).alloc = s.alloc ∧ (releaseVisit x0 x1 s).time = s.time ∧
    (releaseVisit x0 x1 s).watch = s.watch ∧ (releaseVisit x0 x1 s).settings = s.settings ∧
    (releaseVisit x0 x1 s).freeCount = s.freeCount ∧ (releaseVisit x0 x1 s).pending = s.pending := by
  unfold releaseVisit
  (try dsimp only); (repeat' split) <;> (try simp) <;> (try simp_all)

@[simp] theorem releasePlatform_frame (x0 : Platform) (x1 : ReleaseAction) (x2 : ResumePoint) (x3 : Nat) (s : State) :
    (releasePlatform x0 x1 x2 x3 s).part = s.part ∧ (releasePlatform x0 x1 x2 x3 s).intakes = s.intakes ∧
    (releasePlatform x0 x1 x2 x3 s).sync = s.sync ∧ (releasePlatform x0 x1 x2 x3 s).chains = s.chains ∧
    (releasePlatform x0 x1 x2 x3 s).nextCapture = s.nextCapture ∧ (releasePlatform x0 x1 x2 x3 s).inputs = s.inputs ∧
    (releasePlatform x0 x1 x2 x3 s).recent = s.recent ∧ (releasePlatform x0 x1 x2 x3 s).readerErrors = s.readerErrors ∧
    (releasePlatform x0 x1 x2 x3 s).gates = s.gates ∧ (releasePlatform x0 x1 x2 x3 s).tables = s.tables ∧
    (releasePlatform x0 x1 x2 x3 s).tickets = s.tickets ∧ (releasePlatform x0 x1 x2 x3 s).time = s.time ∧
    (releasePlatform x0 x1 x2 x3 s).watch = s.watch ∧ (releasePlatform x0 x1 x2 x3 s).settings = s.settings ∧
    (releasePlatform x0 x1 x2 x3 s).freeCount = s.freeCount ∧ (releasePlatform x0 x1 x2 x3 s).pending = s.pending := by
  unfold releasePlatform
  (try dsimp only); (repeat' split) <;> (try simp) <;> (try simp_all)

@[simp] theorem platformReleaseRule_frame (x0 : List Text) (s : State) :
    (platformReleaseRule x0 s).1.part = s.part ∧ (platformReleaseRule x0 s).1.intakes = s.intakes ∧
    (platformReleaseRule x0 s).1.sync = s.sync ∧ (platformReleaseRule x0 s).1.chains = s.chains ∧
    (platformReleaseRule x0 s).1.nextCapture = s.nextCapture ∧ (platformReleaseRule x0 s).1.inputs = s.inputs ∧
    (platformReleaseRule x0 s).1.recent = s.recent ∧ (platformReleaseRule x0 s).1.readerErrors = s.readerErrors ∧
    (platformReleaseRule x0 s).1.gates = s.gates ∧ (platformReleaseRule x0 s).1.time = s.time ∧
    (platformReleaseRule x0 s).1.watch = s.watch ∧ (platformReleaseRule x0 s).1.settings = s.settings ∧
    (platformReleaseRule x0 s).1.freeCount = s.freeCount ∧ (platformReleaseRule x0 s).1.pending = s.pending := by
  unfold platformReleaseRule accept refuse
  (try dsimp only); (repeat' split) <;> (try simp) <;> (try (split <;> simp))

@[simp] theorem platformAbortRule_frame (x0 : List Text) (s : State) :
    (platformAbortRule x0 s).1.part = s.part ∧ (platformAbortRule x0 s).1.intakes = s.intakes ∧
    (platformAbortRule x0 s).1.sync = s.sync ∧ (platformAbortRule x0 s).1.nextCapture = s.nextCapture ∧
    (platformAbortRule x0 s).1.inputs = s.inputs ∧ (platformAbortRule x0 s).1.recent = s.recent ∧
    (platformAbortRule x0 s).1.readerErrors = s.readerErrors ∧ (platformAbortRule x0 s).1.gates = s.gates ∧
    (platformAbortRule x0 s).1.alloc = s.alloc ∧ (platformAbortRule x0 s).1.tables = s.tables ∧
    (platformAbortRule x0 s).1.visits = s.visits ∧ (platformAbortRule x0 s).1.tickets = s.tickets ∧
    (platformAbortRule x0 s).1.time = s.time ∧ (platformAbortRule x0 s).1.watch = s.watch ∧
    (platformAbortRule x0 s).1.settings = s.settings ∧ (platformAbortRule x0 s).1.freeCount = s.freeCount ∧
    (platformAbortRule x0 s).1.pending = s.pending := by
  unfold platformAbortRule accept refuse
  (try dsimp only); (repeat' split) <;> (try simp) <;> (try (split <;> simp))

@[simp] theorem platformAcceptRule_frame (x0 : List Text) (s : State) :
    (platformAcceptRule x0 s).1.part = s.part ∧ (platformAcceptRule x0 s).1.intakes = s.intakes ∧
    (platformAcceptRule x0 s).1.sync = s.sync ∧ (platformAcceptRule x0 s).1.chains = s.chains ∧
    (platformAcceptRule x0 s).1.nextCapture = s.nextCapture ∧ (platformAcceptRule x0 s).1.inputs = s.inputs ∧
    (platformAcceptRule x0 s).1.drives = s.drives ∧ (platformAcceptRule x0 s).1.beacons = s.beacons ∧
    (platformAcceptRule x0 s).1.bars = s.bars ∧ (platformAcceptRule x0 s).1.recent = s.recent ∧
    (platformAcceptRule x0 s).1.readerErrors = s.readerErrors ∧ (platformAcceptRule x0 s).1.gates = s.gates ∧
    (platformAcceptRule x0 s).1.alloc = s.alloc ∧ (platformAcceptRule x0 s).1.tables = s.tables ∧
    (platformAcceptRule x0 s).1.visits = s.visits ∧ (platformAcceptRule x0 s).1.tickets = s.tickets ∧
    (platformAcceptRule x0 s).1.time = s.time ∧ (platformAcceptRule x0 s).1.watch = s.watch ∧
    (platformAcceptRule x0 s).1.settings = s.settings ∧ (platformAcceptRule x0 s).1.freeCount = s.freeCount ∧
    (platformAcceptRule x0 s).1.pending = s.pending := by
  unfold platformAcceptRule accept refuse
  (try dsimp only); (repeat' split) <;> (try simp) <;> (try (split <;> simp))

@[simp] theorem platformModeRule_frame (x0 : List Text) (s : State) :
    (platformModeRule x0 s).1.part = s.part ∧ (platformModeRule x0 s).1.nextCapture = s.nextCapture ∧
    (platformModeRule x0 s).1.inputs = s.inputs ∧ (platformModeRule x0 s).1.recent = s.recent ∧
    (platformModeRule x0 s).1.readerErrors = s.readerErrors ∧ (platformModeRule x0 s).1.gates = s.gates ∧
    (platformModeRule x0 s).1.alloc = s.alloc ∧ (platformModeRule x0 s).1.tables = s.tables ∧
    (platformModeRule x0 s).1.visits = s.visits ∧ (platformModeRule x0 s).1.tickets = s.tickets ∧
    (platformModeRule x0 s).1.time = s.time ∧ (platformModeRule x0 s).1.watch = s.watch ∧
    (platformModeRule x0 s).1.settings = s.settings ∧ (platformModeRule x0 s).1.freeCount = s.freeCount ∧
    (platformModeRule x0 s).1.pending = s.pending := by
  unfold platformModeRule accept refuse
  (try dsimp only); (repeat' split) <;> (try simp) <;> (try (split <;> simp))

@[simp] theorem platformRule_frame (x0 : List Text) (s : State) :
    (platformRule x0 s).1.part = s.part ∧ (platformRule x0 s).1.intakes = s.intakes ∧ (platformRule x0 s).1.sync = s.sync ∧
    (platformRule x0 s).1.chains = s.chains ∧ (platformRule x0 s).1.nextCapture = s.nextCapture ∧
    (platformRule x0 s).1.inputs = s.inputs ∧ (platformRule x0 s).1.drives = s.drives ∧
    (platformRule x0 s).1.beacons = s.beacons ∧ (platformRule x0 s).1.bars = s.bars ∧
    (platformRule x0 s).1.recent = s.recent ∧ (platformRule x0 s).1.readerErrors = s.readerErrors ∧
    (platformRule x0 s).1.gates = s.gates ∧ (platformRule x0 s).1.plat = s.plat ∧ (platformRule x0 s).1.alloc = s.alloc ∧
    (platformRule x0 s).1.tables = s.tables ∧ (platformRule x0 s).1.visits = s.visits ∧
    (platformRule x0 s).1.tickets = s.tickets ∧ (platformRule x0 s).1.time = s.time ∧
    (platformRule x0 s).1.watch = s.watch ∧ (platformRule x0 s).1.link = s.link ∧
    (platformRule x0 s).1.settings = s.settings ∧ (platformRule x0 s).1.freeCount = s.freeCount ∧
    (platformRule x0 s).1.pending = s.pending := by
  unfold platformRule accept refuse
  (try dsimp only); (repeat' split) <;> (try simp) <;> (try (split <;> simp))

@[simp] theorem callRule_frame (x0 : List Text) (s : State) :
    (callRule x0 s).1.part = s.part ∧ (callRule x0 s).1.intakes = s.intakes ∧ (callRule x0 s).1.sync = s.sync ∧
    (callRule x0 s).1.chains = s.chains ∧ (callRule x0 s).1.nextCapture = s.nextCapture ∧
    (callRule x0 s).1.inputs = s.inputs ∧ (callRule x0 s).1.drives = s.drives ∧ (callRule x0 s).1.bars = s.bars ∧
    (callRule x0 s).1.recent = s.recent ∧ (callRule x0 s).1.readerErrors = s.readerErrors ∧
    (callRule x0 s).1.gates = s.gates ∧ (callRule x0 s).1.tables = s.tables ∧ (callRule x0 s).1.tickets = s.tickets ∧
    (callRule x0 s).1.time = s.time ∧ (callRule x0 s).1.watch = s.watch ∧ (callRule x0 s).1.settings = s.settings ∧
    (callRule x0 s).1.freeCount = s.freeCount ∧ (callRule x0 s).1.pending = s.pending := by
  unfold callRule accept refuse
  (try dsimp only); (repeat' split) <;> (try simp) <;> (try (split <;> simp))

@[simp] theorem queueRule_frame (x0 : List Text) (s : State) :
    (queueRule x0 s).1.part = s.part ∧ (queueRule x0 s).1.intakes = s.intakes ∧ (queueRule x0 s).1.sync = s.sync ∧
    (queueRule x0 s).1.chains = s.chains ∧ (queueRule x0 s).1.nextCapture = s.nextCapture ∧
    (queueRule x0 s).1.inputs = s.inputs ∧ (queueRule x0 s).1.drives = s.drives ∧ (queueRule x0 s).1.beacons = s.beacons ∧
    (queueRule x0 s).1.bars = s.bars ∧ (queueRule x0 s).1.recent = s.recent ∧
    (queueRule x0 s).1.readerErrors = s.readerErrors ∧ (queueRule x0 s).1.gates = s.gates ∧
    (queueRule x0 s).1.plat = s.plat ∧ (queueRule x0 s).1.alloc = s.alloc ∧ (queueRule x0 s).1.tables = s.tables ∧
    (queueRule x0 s).1.visits = s.visits ∧ (queueRule x0 s).1.tickets = s.tickets ∧ (queueRule x0 s).1.time = s.time ∧
    (queueRule x0 s).1.watch = s.watch ∧ (queueRule x0 s).1.link = s.link ∧ (queueRule x0 s).1.settings = s.settings ∧
    (queueRule x0 s).1.freeCount = s.freeCount ∧ (queueRule x0 s).1.pending = s.pending := by
  unfold queueRule accept refuse
  (try dsimp only); (repeat' split) <;> (try simp) <;> (try (split <;> simp))

@[simp] theorem vehicleGetRule_frame (x0 : List Text) (s : State) :
    (vehicleGetRule x0 s).1.part = s.part ∧ (vehicleGetRule x0 s).1.intakes = s.intakes ∧
    (vehicleGetRule x0 s).1.sync = s.sync ∧ (vehicleGetRule x0 s).1.chains = s.chains ∧
    (vehicleGetRule x0 s).1.nextCapture = s.nextCapture ∧ (vehicleGetRule x0 s).1.inputs = s.inputs ∧
    (vehicleGetRule x0 s).1.drives = s.drives ∧ (vehicleGetRule x0 s).1.beacons = s.beacons ∧
    (vehicleGetRule x0 s).1.bars = s.bars ∧ (vehicleGetRule x0 s).1.recent = s.recent ∧
    (vehicleGetRule x0 s).1.readerErrors = s.readerErrors ∧ (vehicleGetRule x0 s).1.gates = s.gates ∧
    (vehicleGetRule x0 s).1.plat = s.plat ∧ (vehicleGetRule x0 s).1.alloc = s.alloc ∧
    (vehicleGetRule x0 s).1.tables = s.tables ∧ (vehicleGetRule x0 s).1.visits = s.visits ∧
    (vehicleGetRule x0 s).1.tickets = s.tickets ∧ (vehicleGetRule x0 s).1.time = s.time ∧
    (vehicleGetRule x0 s).1.watch = s.watch ∧ (vehicleGetRule x0 s).1.link = s.link ∧
    (vehicleGetRule x0 s).1.settings = s.settings ∧ (vehicleGetRule x0 s).1.freeCount = s.freeCount ∧
    (vehicleGetRule x0 s).1.pending = s.pending := by
  unfold vehicleGetRule accept refuse
  (try dsimp only); (repeat' split) <;> (try simp) <;> (try (split <;> simp))

@[simp] theorem putVehicle_frame (x0 : Nat) (x1 : Vehicle) (s : State) :
    (putVehicle x0 x1 s).part = s.part ∧ (putVehicle x0 x1 s).intakes = s.intakes ∧ (putVehicle x0 x1 s).sync = s.sync ∧
    (putVehicle x0 x1 s).chains = s.chains ∧ (putVehicle x0 x1 s).nextCapture = s.nextCapture ∧
    (putVehicle x0 x1 s).inputs = s.inputs ∧ (putVehicle x0 x1 s).drives = s.drives ∧
    (putVehicle x0 x1 s).beacons = s.beacons ∧ (putVehicle x0 x1 s).bars = s.bars ∧ (putVehicle x0 x1 s).recent = s.recent ∧
    (putVehicle x0 x1 s).readerErrors = s.readerErrors ∧ (putVehicle x0 x1 s).gates = s.gates ∧
    (putVehicle x0 x1 s).plat = s.plat ∧ (putVehicle x0 x1 s).alloc = s.alloc ∧ (putVehicle x0 x1 s).visits = s.visits ∧
    (putVehicle x0 x1 s).tickets = s.tickets ∧ (putVehicle x0 x1 s).time = s.time ∧ (putVehicle x0 x1 s).watch = s.watch ∧
    (putVehicle x0 x1 s).link = s.link ∧ (putVehicle x0 x1 s).settings = s.settings ∧
    (putVehicle x0 x1 s).freeCount = s.freeCount ∧ (putVehicle x0 x1 s).pending = s.pending := by
  unfold putVehicle
  (try dsimp only); (repeat' split) <;> (try simp) <;> (try simp_all)

@[simp] theorem vehiclePutRule_frame (x0 : List Text) (s : State) :
    (vehiclePutRule x0 s).1.part = s.part ∧ (vehiclePutRule x0 s).1.intakes = s.intakes ∧
    (vehiclePutRule x0 s).1.sync = s.sync ∧ (vehiclePutRule x0 s).1.chains = s.chains ∧
    (vehiclePutRule x0 s).1.nextCapture = s.nextCapture ∧ (vehiclePutRule x0 s).1.inputs = s.inputs ∧
    (vehiclePutRule x0 s).1.drives = s.drives ∧ (vehiclePutRule x0 s).1.beacons = s.beacons ∧
    (vehiclePutRule x0 s).1.bars = s.bars ∧ (vehiclePutRule x0 s).1.recent = s.recent ∧
    (vehiclePutRule x0 s).1.readerErrors = s.readerErrors ∧ (vehiclePutRule x0 s).1.gates = s.gates ∧
    (vehiclePutRule x0 s).1.plat = s.plat ∧ (vehiclePutRule x0 s).1.alloc = s.alloc ∧
    (vehiclePutRule x0 s).1.visits = s.visits ∧ (vehiclePutRule x0 s).1.tickets = s.tickets ∧
    (vehiclePutRule x0 s).1.time = s.time ∧ (vehiclePutRule x0 s).1.watch = s.watch ∧
    (vehiclePutRule x0 s).1.link = s.link ∧ (vehiclePutRule x0 s).1.settings = s.settings ∧
    (vehiclePutRule x0 s).1.freeCount = s.freeCount ∧ (vehiclePutRule x0 s).1.pending = s.pending := by
  unfold vehiclePutRule accept refuse
  (try dsimp only); (repeat' split) <;> (try simp) <;> (try (split <;> simp))

@[simp] theorem vehicleDeleteRule_frame (x0 : List Text) (s : State) :
    (vehicleDeleteRule x0 s).1.part = s.part ∧ (vehicleDeleteRule x0 s).1.intakes = s.intakes ∧
    (vehicleDeleteRule x0 s).1.sync = s.sync ∧ (vehicleDeleteRule x0 s).1.chains = s.chains ∧
    (vehicleDeleteRule x0 s).1.nextCapture = s.nextCapture ∧ (vehicleDeleteRule x0 s).1.inputs = s.inputs ∧
    (vehicleDeleteRule x0 s).1.drives = s.drives ∧ (vehicleDeleteRule x0 s).1.beacons = s.beacons ∧
    (vehicleDeleteRule x0 s).1.bars = s.bars ∧ (vehicleDeleteRule x0 s).1.recent = s.recent ∧
    (vehicleDeleteRule x0 s).1.readerErrors = s.readerErrors ∧ (vehicleDeleteRule x0 s).1.gates = s.gates ∧
    (vehicleDeleteRule x0 s).1.plat = s.plat ∧ (vehicleDeleteRule x0 s).1.alloc = s.alloc ∧
    (vehicleDeleteRule x0 s).1.visits = s.visits ∧ (vehicleDeleteRule x0 s).1.tickets = s.tickets ∧
    (vehicleDeleteRule x0 s).1.time = s.time ∧ (vehicleDeleteRule x0 s).1.watch = s.watch ∧
    (vehicleDeleteRule x0 s).1.link = s.link ∧ (vehicleDeleteRule x0 s).1.settings = s.settings ∧
    (vehicleDeleteRule x0 s).1.freeCount = s.freeCount ∧ (vehicleDeleteRule x0 s).1.pending = s.pending := by
  unfold vehicleDeleteRule accept refuse
  (try dsimp only); (repeat' split) <;> (try simp) <;> (try (split <;> simp))

@[simp] theorem accountGetRule_frame (x0 : List Text) (s : State) :
    (accountGetRule x0 s).1.part = s.part ∧ (accountGetRule x0 s).1.intakes = s.intakes ∧
    (accountGetRule x0 s).1.sync = s.sync ∧ (accountGetRule x0 s).1.chains = s.chains ∧
    (accountGetRule x0 s).1.nextCapture = s.nextCapture ∧ (accountGetRule x0 s).1.inputs = s.inputs ∧
    (accountGetRule x0 s).1.drives = s.drives ∧ (accountGetRule x0 s).1.beacons = s.beacons ∧
    (accountGetRule x0 s).1.bars = s.bars ∧ (accountGetRule x0 s).1.recent = s.recent ∧
    (accountGetRule x0 s).1.readerErrors = s.readerErrors ∧ (accountGetRule x0 s).1.gates = s.gates ∧
    (accountGetRule x0 s).1.plat = s.plat ∧ (accountGetRule x0 s).1.alloc = s.alloc ∧
    (accountGetRule x0 s).1.tables = s.tables ∧ (accountGetRule x0 s).1.visits = s.visits ∧
    (accountGetRule x0 s).1.tickets = s.tickets ∧ (accountGetRule x0 s).1.time = s.time ∧
    (accountGetRule x0 s).1.watch = s.watch ∧ (accountGetRule x0 s).1.link = s.link ∧
    (accountGetRule x0 s).1.settings = s.settings ∧ (accountGetRule x0 s).1.freeCount = s.freeCount ∧
    (accountGetRule x0 s).1.pending = s.pending := by
  unfold accountGetRule accept refuse
  (try dsimp only); (repeat' split) <;> (try simp) <;> (try (split <;> simp))

@[simp] theorem putAccount_frame (x0 : Nat) (x1 : Account) (s : State) :
    (putAccount x0 x1 s).part = s.part ∧ (putAccount x0 x1 s).intakes = s.intakes ∧ (putAccount x0 x1 s).sync = s.sync ∧
    (putAccount x0 x1 s).chains = s.chains ∧ (putAccount x0 x1 s).nextCapture = s.nextCapture ∧
    (putAccount x0 x1 s).inputs = s.inputs ∧ (putAccount x0 x1 s).drives = s.drives ∧
    (putAccount x0 x1 s).beacons = s.beacons ∧ (putAccount x0 x1 s).bars = s.bars ∧ (putAccount x0 x1 s).recent = s.recent ∧
    (putAccount x0 x1 s).readerErrors = s.readerErrors ∧ (putAccount x0 x1 s).gates = s.gates ∧
    (putAccount x0 x1 s).plat = s.plat ∧ (putAccount x0 x1 s).alloc = s.alloc ∧ (putAccount x0 x1 s).visits = s.visits ∧
    (putAccount x0 x1 s).tickets = s.tickets ∧ (putAccount x0 x1 s).time = s.time ∧ (putAccount x0 x1 s).watch = s.watch ∧
    (putAccount x0 x1 s).link = s.link ∧ (putAccount x0 x1 s).settings = s.settings ∧
    (putAccount x0 x1 s).freeCount = s.freeCount ∧ (putAccount x0 x1 s).pending = s.pending := by
  unfold putAccount
  (try dsimp only); (repeat' split) <;> (try simp) <;> (try simp_all)

@[simp] theorem accountPutRule_frame (x0 : List Text) (s : State) :
    (accountPutRule x0 s).1.part = s.part ∧ (accountPutRule x0 s).1.intakes = s.intakes ∧
    (accountPutRule x0 s).1.sync = s.sync ∧ (accountPutRule x0 s).1.chains = s.chains ∧
    (accountPutRule x0 s).1.nextCapture = s.nextCapture ∧ (accountPutRule x0 s).1.inputs = s.inputs ∧
    (accountPutRule x0 s).1.drives = s.drives ∧ (accountPutRule x0 s).1.beacons = s.beacons ∧
    (accountPutRule x0 s).1.bars = s.bars ∧ (accountPutRule x0 s).1.recent = s.recent ∧
    (accountPutRule x0 s).1.readerErrors = s.readerErrors ∧ (accountPutRule x0 s).1.gates = s.gates ∧
    (accountPutRule x0 s).1.plat = s.plat ∧ (accountPutRule x0 s).1.visits = s.visits ∧
    (accountPutRule x0 s).1.tickets = s.tickets ∧ (accountPutRule x0 s).1.time = s.time ∧
    (accountPutRule x0 s).1.watch = s.watch ∧ (accountPutRule x0 s).1.link = s.link ∧
    (accountPutRule x0 s).1.settings = s.settings ∧ (accountPutRule x0 s).1.freeCount = s.freeCount ∧
    (accountPutRule x0 s).1.pending = s.pending := by
  unfold accountPutRule accept refuse
  (try dsimp only); (repeat' split) <;> (try simp) <;> (try (split <;> simp))

@[simp] theorem accountStatusRule_frame (x0 : List Text) (s : State) :
    (accountStatusRule x0 s).1.part = s.part ∧ (accountStatusRule x0 s).1.intakes = s.intakes ∧
    (accountStatusRule x0 s).1.sync = s.sync ∧ (accountStatusRule x0 s).1.chains = s.chains ∧
    (accountStatusRule x0 s).1.nextCapture = s.nextCapture ∧ (accountStatusRule x0 s).1.inputs = s.inputs ∧
    (accountStatusRule x0 s).1.drives = s.drives ∧ (accountStatusRule x0 s).1.beacons = s.beacons ∧
    (accountStatusRule x0 s).1.bars = s.bars ∧ (accountStatusRule x0 s).1.recent = s.recent ∧
    (accountStatusRule x0 s).1.readerErrors = s.readerErrors ∧ (accountStatusRule x0 s).1.gates = s.gates ∧
    (accountStatusRule x0 s).1.plat = s.plat ∧ (accountStatusRule x0 s).1.alloc = s.alloc ∧
    (accountStatusRule x0 s).1.visits = s.visits ∧ (accountStatusRule x0 s).1.tickets = s.tickets ∧
    (accountStatusRule x0 s).1.time = s.time ∧ (accountStatusRule x0 s).1.watch = s.watch ∧
    (accountStatusRule x0 s).1.link = s.link ∧ (accountStatusRule x0 s).1.settings = s.settings ∧
    (accountStatusRule x0 s).1.freeCount = s.freeCount ∧ (accountStatusRule x0 s).1.pending = s.pending := by
  unfold accountStatusRule accept refuse
  (try dsimp only); (repeat' split) <;> (try simp) <;> (try (split <;> simp))

@[simp] theorem accountDeleteRule_frame (x0 : List Text) (s : State) :
    (accountDeleteRule x0 s).1.part = s.part ∧ (accountDeleteRule x0 s).1.intakes = s.intakes ∧
    (accountDeleteRule x0 s).1.sync = s.sync ∧ (accountDeleteRule x0 s).1.chains = s.chains ∧
    (accountDeleteRule x0 s).1.nextCapture = s.nextCapture ∧ (accountDeleteRule x0 s).1.inputs = s.inputs ∧
    (accountDeleteRule x0 s).1.drives = s.drives ∧ (accountDeleteRule x0 s).1.beacons = s.beacons ∧
    (accountDeleteRule x0 s).1.bars = s.bars ∧ (accountDeleteRule x0 s).1.recent = s.recent ∧
    (accountDeleteRule x0 s).1.readerErrors = s.readerErrors ∧ (accountDeleteRule x0 s).1.gates = s.gates ∧
    (accountDeleteRule x0 s).1.plat = s.plat ∧ (accountDeleteRule x0 s).1.alloc = s.alloc ∧
    (accountDeleteRule x0 s).1.visits = s.visits ∧ (accountDeleteRule x0 s).1.tickets = s.tickets ∧
    (accountDeleteRule x0 s).1.time = s.time ∧ (accountDeleteRule x0 s).1.watch = s.watch ∧
    (accountDeleteRule x0 s).1.link = s.link ∧ (accountDeleteRule x0 s).1.settings = s.settings ∧
    (accountDeleteRule x0 s).1.freeCount = s.freeCount ∧ (accountDeleteRule x0 s).1.pending = s.pending := by
  unfold accountDeleteRule accept refuse
  (try dsimp only); (repeat' split) <;> (try simp) <;> (try (split <;> simp))

@[simp] theorem resolveVisit_frame (x0 : ResolveAction) (x1 : Nat) (x2 : Platform) (s : State) :
    (resolveVisit x0 x1 x2 s).part = s.part ∧ (resolveVisit x0 x1 x2 s).intakes = s.intakes ∧
    (resolveVisit x0 x1 x2 s).sync = s.sync ∧ (resolveVisit x0 x1 x2 s).nextCapture = s.nextCapture ∧
    (resolveVisit x0 x1 x2 s).inputs = s.inputs ∧ (resolveVisit x0 x1 x2 s).recent = s.recent ∧
    (resolveVisit x0 x1 x2 s).readerErrors = s.readerErrors ∧ (resolveVisit x0 x1 x2 s).gates = s.gates ∧
    (resolveVisit x0 x1 x2 s).alloc = s.alloc ∧ (resolveVisit x0 x1 x2 s).time = s.time ∧
    (resolveVisit x0 x1 x2 s).watch = s.watch ∧ (resolveVisit x0 x1 x2 s).settings = s.settings ∧
    (resolveVisit x0 x1 x2 s).freeCount = s.freeCount ∧ (resolveVisit x0 x1 x2 s).pending = s.pending := by
  unfold resolveVisit
  (try dsimp only); (repeat' split) <;> (try simp) <;> (try simp_all)

@[simp] theorem visitResolveRule_frame (x0 : List Text) (s : State) :
    (visitResolveRule x0 s).1.part = s.part ∧ (visitResolveRule x0 s).1.intakes = s.intakes ∧
    (visitResolveRule x0 s).1.sync = s.sync ∧ (visitResolveRule x0 s).1.nextCapture = s.nextCapture ∧
    (visitResolveRule x0 s).1.inputs = s.inputs ∧ (visitResolveRule x0 s).1.recent = s.recent ∧
    (visitResolveRule x0 s).1.readerErrors = s.readerErrors ∧ (visitResolveRule x0 s).1.gates = s.gates ∧
    (visitResolveRule x0 s).1.alloc = s.alloc ∧ (visitResolveRule x0 s).1.time = s.time ∧
    (visitResolveRule x0 s).1.watch = s.watch ∧ (visitResolveRule x0 s).1.settings = s.settings ∧
    (visitResolveRule x0 s).1.freeCount = s.freeCount ∧ (visitResolveRule x0 s).1.pending = s.pending := by
  unfold visitResolveRule accept refuse
  (try dsimp only); (repeat' split) <;> (try simp) <;> (try (split <;> simp))

@[simp] theorem cancelVisit_frame (x0 : Visit) (s : State) :
    (cancelVisit x0 s).part = s.part ∧ (cancelVisit x0 s).intakes = s.intakes ∧ (cancelVisit x0 s).sync = s.sync ∧
    (cancelVisit x0 s).chains = s.chains ∧ (cancelVisit x0 s).nextCapture = s.nextCapture ∧
    (cancelVisit x0 s).inputs = s.inputs ∧ (cancelVisit x0 s).drives = s.drives ∧ (cancelVisit x0 s).beacons = s.beacons ∧
    (cancelVisit x0 s).bars = s.bars ∧ (cancelVisit x0 s).recent = s.recent ∧
    (cancelVisit x0 s).readerErrors = s.readerErrors ∧ 
    (cancelVisit x0 s).plat = s.plat ∧ (cancelVisit x0 s).time = s.time ∧ (cancelVisit x0 s).watch = s.watch ∧
    (cancelVisit x0 s).settings = s.settings ∧ (cancelVisit x0 s).freeCount = s.freeCount ∧
    (cancelVisit x0 s).pending = s.pending := by
  unfold cancelVisit
  (try dsimp only); (repeat' split) <;> (try simp) <;> (try simp_all)

@[simp] theorem cancelRule_frame (x0 : List Text) (s : State) :
    (cancelRule x0 s).1.part = s.part ∧ (cancelRule x0 s).1.intakes = s.intakes ∧ (cancelRule x0 s).1.sync = s.sync ∧
    (cancelRule x0 s).1.chains = s.chains ∧ (cancelRule x0 s).1.nextCapture = s.nextCapture ∧
    (cancelRule x0 s).1.inputs = s.inputs ∧ (cancelRule x0 s).1.drives = s.drives ∧
    (cancelRule x0 s).1.beacons = s.beacons ∧ (cancelRule x0 s).1.bars = s.bars ∧ (cancelRule x0 s).1.recent = s.recent ∧
    (cancelRule x0 s).1.readerErrors = s.readerErrors ∧
    (cancelRule x0 s).1.plat = s.plat ∧ (cancelRule x0 s).1.time = s.time ∧ (cancelRule x0 s).1.watch = s.watch ∧
    (cancelRule x0 s).1.settings = s.settings ∧ (cancelRule x0 s).1.freeCount = s.freeCount ∧
    (cancelRule x0 s).1.pending = s.pending := by
  unfold cancelRule accept refuse
  (try dsimp only); (repeat' split) <;> (try simp) <;> (try (split <;> simp))

@[simp] theorem holdVisitRule_frame (x0 : List Text) (s : State) :
    (holdVisitRule x0 s).1.part = s.part ∧ (holdVisitRule x0 s).1.intakes = s.intakes ∧
    (holdVisitRule x0 s).1.sync = s.sync ∧ (holdVisitRule x0 s).1.chains = s.chains ∧
    (holdVisitRule x0 s).1.nextCapture = s.nextCapture ∧ (holdVisitRule x0 s).1.inputs = s.inputs ∧
    (holdVisitRule x0 s).1.drives = s.drives ∧ (holdVisitRule x0 s).1.beacons = s.beacons ∧
    (holdVisitRule x0 s).1.bars = s.bars ∧ (holdVisitRule x0 s).1.recent = s.recent ∧
    (holdVisitRule x0 s).1.readerErrors = s.readerErrors ∧ (holdVisitRule x0 s).1.gates = s.gates ∧
    (holdVisitRule x0 s).1.plat = s.plat ∧ (holdVisitRule x0 s).1.tables = s.tables ∧
    (holdVisitRule x0 s).1.tickets = s.tickets ∧ (holdVisitRule x0 s).1.time = s.time ∧
    (holdVisitRule x0 s).1.watch = s.watch ∧ (holdVisitRule x0 s).1.settings = s.settings ∧
    (holdVisitRule x0 s).1.freeCount = s.freeCount ∧ (holdVisitRule x0 s).1.pending = s.pending := by
  unfold holdVisitRule accept refuse
  (try dsimp only); (repeat' split) <;> (try simp) <;> (try (split <;> simp))

@[simp] theorem requeueRule_frame (x0 : List Text) (s : State) :
    (requeueRule x0 s).1.part = s.part ∧ (requeueRule x0 s).1.intakes = s.intakes ∧ (requeueRule x0 s).1.sync = s.sync ∧
    (requeueRule x0 s).1.chains = s.chains ∧ (requeueRule x0 s).1.nextCapture = s.nextCapture ∧
    (requeueRule x0 s).1.inputs = s.inputs ∧ (requeueRule x0 s).1.drives = s.drives ∧
    (requeueRule x0 s).1.beacons = s.beacons ∧ (requeueRule x0 s).1.bars = s.bars ∧ (requeueRule x0 s).1.recent = s.recent ∧
    (requeueRule x0 s).1.readerErrors = s.readerErrors ∧ (requeueRule x0 s).1.gates = s.gates ∧
    (requeueRule x0 s).1.plat = s.plat ∧ (requeueRule x0 s).1.tables = s.tables ∧ (requeueRule x0 s).1.tickets = s.tickets ∧
    (requeueRule x0 s).1.time = s.time ∧ (requeueRule x0 s).1.watch = s.watch ∧ (requeueRule x0 s).1.settings = s.settings ∧
    (requeueRule x0 s).1.freeCount = s.freeCount ∧ (requeueRule x0 s).1.pending = s.pending := by
  unfold requeueRule accept refuse
  (try dsimp only); (repeat' split) <;> (try simp) <;> (try (split <;> simp))

@[simp] theorem visitRule_frame (x0 : List Text) (s : State) :
    (visitRule x0 s).1.part = s.part ∧ (visitRule x0 s).1.intakes = s.intakes ∧ (visitRule x0 s).1.sync = s.sync ∧
    (visitRule x0 s).1.chains = s.chains ∧ (visitRule x0 s).1.nextCapture = s.nextCapture ∧
    (visitRule x0 s).1.inputs = s.inputs ∧ (visitRule x0 s).1.drives = s.drives ∧ (visitRule x0 s).1.beacons = s.beacons ∧
    (visitRule x0 s).1.bars = s.bars ∧ (visitRule x0 s).1.recent = s.recent ∧
    (visitRule x0 s).1.readerErrors = s.readerErrors ∧ (visitRule x0 s).1.gates = s.gates ∧
    (visitRule x0 s).1.plat = s.plat ∧ (visitRule x0 s).1.alloc = s.alloc ∧ (visitRule x0 s).1.tables = s.tables ∧
    (visitRule x0 s).1.visits = s.visits ∧ (visitRule x0 s).1.tickets = s.tickets ∧ (visitRule x0 s).1.time = s.time ∧
    (visitRule x0 s).1.watch = s.watch ∧ (visitRule x0 s).1.link = s.link ∧ (visitRule x0 s).1.settings = s.settings ∧
    (visitRule x0 s).1.freeCount = s.freeCount ∧ (visitRule x0 s).1.pending = s.pending := by
  unfold visitRule accept refuse
  (try dsimp only); (repeat' split) <;> (try simp) <;> (try (split <;> simp))

@[simp] theorem visitListRule_frame (x0 : List Text) (s : State) :
    (visitListRule x0 s).1.part = s.part ∧ (visitListRule x0 s).1.intakes = s.intakes ∧
    (visitListRule x0 s).1.sync = s.sync ∧ (visitListRule x0 s).1.chains = s.chains ∧
    (visitListRule x0 s).1.nextCapture = s.nextCapture ∧ (visitListRule x0 s).1.inputs = s.inputs ∧
    (visitListRule x0 s).1.drives = s.drives ∧ (visitListRule x0 s).1.beacons = s.beacons ∧
    (visitListRule x0 s).1.bars = s.bars ∧ (visitListRule x0 s).1.recent = s.recent ∧
    (visitListRule x0 s).1.readerErrors = s.readerErrors ∧ (visitListRule x0 s).1.gates = s.gates ∧
    (visitListRule x0 s).1.plat = s.plat ∧ (visitListRule x0 s).1.alloc = s.alloc ∧
    (visitListRule x0 s).1.tables = s.tables ∧ (visitListRule x0 s).1.visits = s.visits ∧
    (visitListRule x0 s).1.tickets = s.tickets ∧ (visitListRule x0 s).1.time = s.time ∧
    (visitListRule x0 s).1.watch = s.watch ∧ (visitListRule x0 s).1.link = s.link ∧
    (visitListRule x0 s).1.settings = s.settings ∧ (visitListRule x0 s).1.freeCount = s.freeCount ∧
    (visitListRule x0 s).1.pending = s.pending := by
  unfold visitListRule accept refuse
  (try dsimp only); (repeat' split) <;> (try simp) <;> (try (split <;> simp))

@[simp] theorem textSent_frame (x0 : Printer) (s : State) :
    (textSent x0 s).part = s.part ∧ (textSent x0 s).intakes = s.intakes ∧ (textSent x0 s).sync = s.sync ∧
    (textSent x0 s).chains = s.chains ∧ (textSent x0 s).nextCapture = s.nextCapture ∧ (textSent x0 s).inputs = s.inputs ∧
    (textSent x0 s).drives = s.drives ∧ (textSent x0 s).beacons = s.beacons ∧ (textSent x0 s).bars = s.bars ∧
    (textSent x0 s).recent = s.recent ∧ (textSent x0 s).readerErrors = s.readerErrors ∧ (textSent x0 s).gates = s.gates ∧
    (textSent x0 s).plat = s.plat ∧ (textSent x0 s).alloc = s.alloc ∧ (textSent x0 s).tables = s.tables ∧
    (textSent x0 s).visits = s.visits ∧ (textSent x0 s).time = s.time ∧ (textSent x0 s).watch = s.watch ∧
    (textSent x0 s).link = s.link ∧ (textSent x0 s).settings = s.settings ∧ (textSent x0 s).freeCount = s.freeCount ∧
    (textSent x0 s).pending = s.pending := by
  unfold textSent
  (try dsimp only); (repeat' split) <;> (try simp) <;> (try simp_all)

@[simp] theorem headLeaves_frame (x0 : Printer) (s : State) :
    (headLeaves x0 s).part = s.part ∧ (headLeaves x0 s).intakes = s.intakes ∧ (headLeaves x0 s).sync = s.sync ∧
    (headLeaves x0 s).chains = s.chains ∧ (headLeaves x0 s).nextCapture = s.nextCapture ∧
    (headLeaves x0 s).inputs = s.inputs ∧ (headLeaves x0 s).recent = s.recent ∧
    (headLeaves x0 s).readerErrors = s.readerErrors ∧ (headLeaves x0 s).gates = s.gates ∧
    (headLeaves x0 s).alloc = s.alloc ∧ (headLeaves x0 s).time = s.time ∧ (headLeaves x0 s).watch = s.watch ∧
    (headLeaves x0 s).settings = s.settings ∧ (headLeaves x0 s).freeCount = s.freeCount ∧
    (headLeaves x0 s).pending = s.pending := by
  unfold headLeaves
  (try dsimp only); (repeat' split) <;> (try simp) <;> (try simp_all)

@[simp] theorem headPrinted_frame (x0 : Printer) (s : State) :
    (headPrinted x0 s).part = s.part ∧ (headPrinted x0 s).intakes = s.intakes ∧ (headPrinted x0 s).sync = s.sync ∧
    (headPrinted x0 s).chains = s.chains ∧ (headPrinted x0 s).nextCapture = s.nextCapture ∧
    (headPrinted x0 s).inputs = s.inputs ∧ (headPrinted x0 s).recent = s.recent ∧
    (headPrinted x0 s).readerErrors = s.readerErrors ∧ (headPrinted x0 s).gates = s.gates ∧
    (headPrinted x0 s).alloc = s.alloc ∧ (headPrinted x0 s).time = s.time ∧ (headPrinted x0 s).watch = s.watch ∧
    (headPrinted x0 s).settings = s.settings ∧ (headPrinted x0 s).freeCount = s.freeCount ∧
    (headPrinted x0 s).pending = s.pending := by
  unfold headPrinted
  (try dsimp only); (repeat' split) <;> (try simp) <;> (try simp_all)

@[simp] theorem statusChar_frame (x0 : Printer) (x1 : StatusChar) (s : State) :
    (statusChar x0 x1 s).part = s.part ∧ (statusChar x0 x1 s).intakes = s.intakes ∧ (statusChar x0 x1 s).sync = s.sync ∧
    (statusChar x0 x1 s).chains = s.chains ∧ (statusChar x0 x1 s).nextCapture = s.nextCapture ∧
    (statusChar x0 x1 s).inputs = s.inputs ∧ (statusChar x0 x1 s).recent = s.recent ∧
    (statusChar x0 x1 s).readerErrors = s.readerErrors ∧ (statusChar x0 x1 s).gates = s.gates ∧
    (statusChar x0 x1 s).alloc = s.alloc ∧ (statusChar x0 x1 s).time = s.time ∧ (statusChar x0 x1 s).watch = s.watch ∧
    (statusChar x0 x1 s).settings = s.settings ∧ (statusChar x0 x1 s).freeCount = s.freeCount ∧
    (statusChar x0 x1 s).pending = s.pending := by
  unfold statusChar
  (try dsimp only); (repeat' split) <;> (try simp) <;> (try simp_all)

@[simp] theorem printerChar_frame (x0 : Printer) (x1 : Byte) (s : State) :
    (printerChar x0 x1 s).part = s.part ∧ (printerChar x0 x1 s).intakes = s.intakes ∧ (printerChar x0 x1 s).sync = s.sync ∧
    (printerChar x0 x1 s).chains = s.chains ∧ (printerChar x0 x1 s).nextCapture = s.nextCapture ∧
    (printerChar x0 x1 s).inputs = s.inputs ∧ (printerChar x0 x1 s).recent = s.recent ∧
    (printerChar x0 x1 s).readerErrors = s.readerErrors ∧ (printerChar x0 x1 s).gates = s.gates ∧
    (printerChar x0 x1 s).alloc = s.alloc ∧ (printerChar x0 x1 s).time = s.time ∧ (printerChar x0 x1 s).watch = s.watch ∧
    (printerChar x0 x1 s).settings = s.settings ∧ (printerChar x0 x1 s).freeCount = s.freeCount ∧
    (printerChar x0 x1 s).pending = s.pending := by
  unfold printerChar
  (try dsimp only); (repeat' split) <;> (try simp) <;> (try simp_all)

@[simp] theorem statusFires_frame (x0 : Printer) (s : State) :
    (statusFires x0 s).part = s.part ∧ (statusFires x0 s).intakes = s.intakes ∧ (statusFires x0 s).sync = s.sync ∧
    (statusFires x0 s).chains = s.chains ∧ (statusFires x0 s).nextCapture = s.nextCapture ∧
    (statusFires x0 s).inputs = s.inputs ∧ (statusFires x0 s).drives = s.drives ∧ (statusFires x0 s).beacons = s.beacons ∧
    (statusFires x0 s).bars = s.bars ∧ (statusFires x0 s).recent = s.recent ∧
    (statusFires x0 s).readerErrors = s.readerErrors ∧ (statusFires x0 s).gates = s.gates ∧
    (statusFires x0 s).plat = s.plat ∧ (statusFires x0 s).alloc = s.alloc ∧ (statusFires x0 s).tables = s.tables ∧
    (statusFires x0 s).visits = s.visits ∧ (statusFires x0 s).time = s.time ∧ (statusFires x0 s).watch = s.watch ∧
    (statusFires x0 s).settings = s.settings ∧ (statusFires x0 s).freeCount = s.freeCount ∧
    (statusFires x0 s).pending = s.pending := by
  unfold statusFires
  (try dsimp only); (repeat' split) <;> (try simp) <;> (try simp_all)

@[simp] theorem enquiryFires_frame (x0 : Printer) (s : State) :
    (enquiryFires x0 s).part = s.part ∧ (enquiryFires x0 s).intakes = s.intakes ∧ (enquiryFires x0 s).sync = s.sync ∧
    (enquiryFires x0 s).chains = s.chains ∧ (enquiryFires x0 s).nextCapture = s.nextCapture ∧
    (enquiryFires x0 s).inputs = s.inputs ∧ (enquiryFires x0 s).drives = s.drives ∧
    (enquiryFires x0 s).beacons = s.beacons ∧ (enquiryFires x0 s).bars = s.bars ∧ (enquiryFires x0 s).recent = s.recent ∧
    (enquiryFires x0 s).readerErrors = s.readerErrors ∧ (enquiryFires x0 s).gates = s.gates ∧
    (enquiryFires x0 s).plat = s.plat ∧ (enquiryFires x0 s).alloc = s.alloc ∧ (enquiryFires x0 s).tables = s.tables ∧
    (enquiryFires x0 s).visits = s.visits ∧ (enquiryFires x0 s).time = s.time ∧ (enquiryFires x0 s).watch = s.watch ∧
    (enquiryFires x0 s).link = s.link ∧ (enquiryFires x0 s).settings = s.settings ∧
    (enquiryFires x0 s).freeCount = s.freeCount ∧ (enquiryFires x0 s).pending = s.pending := by
  unfold enquiryFires
  (try dsimp only); (repeat' split) <;> (try simp) <;> (try simp_all)

@[simp] theorem journalReadRule_frame (x0 : List Text) (s : State) :
    (journalReadRule x0 s).1.part = s.part ∧ (journalReadRule x0 s).1.intakes = s.intakes ∧
    (journalReadRule x0 s).1.sync = s.sync ∧ (journalReadRule x0 s).1.chains = s.chains ∧
    (journalReadRule x0 s).1.nextCapture = s.nextCapture ∧ (journalReadRule x0 s).1.inputs = s.inputs ∧
    (journalReadRule x0 s).1.drives = s.drives ∧ (journalReadRule x0 s).1.beacons = s.beacons ∧
    (journalReadRule x0 s).1.bars = s.bars ∧ (journalReadRule x0 s).1.recent = s.recent ∧
    (journalReadRule x0 s).1.readerErrors = s.readerErrors ∧ (journalReadRule x0 s).1.gates = s.gates ∧
    (journalReadRule x0 s).1.plat = s.plat ∧ (journalReadRule x0 s).1.alloc = s.alloc ∧
    (journalReadRule x0 s).1.tables = s.tables ∧ (journalReadRule x0 s).1.visits = s.visits ∧
    (journalReadRule x0 s).1.tickets = s.tickets ∧ (journalReadRule x0 s).1.time = s.time ∧
    (journalReadRule x0 s).1.watch = s.watch ∧ (journalReadRule x0 s).1.link = s.link ∧
    (journalReadRule x0 s).1.settings = s.settings ∧ (journalReadRule x0 s).1.freeCount = s.freeCount ∧
    (journalReadRule x0 s).1.pending = s.pending := by
  unfold journalReadRule accept refuse
  (try dsimp only); (repeat' split) <;> (try simp) <;> (try (split <;> simp))

@[simp] theorem journalReleaseRule_frame (x0 : List Text) (s : State) :
    (journalReleaseRule x0 s).1.part = s.part ∧ (journalReleaseRule x0 s).1.intakes = s.intakes ∧
    (journalReleaseRule x0 s).1.sync = s.sync ∧ (journalReleaseRule x0 s).1.chains = s.chains ∧
    (journalReleaseRule x0 s).1.nextCapture = s.nextCapture ∧ (journalReleaseRule x0 s).1.inputs = s.inputs ∧
    (journalReleaseRule x0 s).1.drives = s.drives ∧ (journalReleaseRule x0 s).1.beacons = s.beacons ∧
    (journalReleaseRule x0 s).1.bars = s.bars ∧ (journalReleaseRule x0 s).1.recent = s.recent ∧
    (journalReleaseRule x0 s).1.readerErrors = s.readerErrors ∧ (journalReleaseRule x0 s).1.gates = s.gates ∧
    (journalReleaseRule x0 s).1.plat = s.plat ∧ (journalReleaseRule x0 s).1.alloc = s.alloc ∧
    (journalReleaseRule x0 s).1.tables = s.tables ∧ (journalReleaseRule x0 s).1.visits = s.visits ∧
    (journalReleaseRule x0 s).1.time = s.time ∧ (journalReleaseRule x0 s).1.watch = s.watch ∧
    (journalReleaseRule x0 s).1.link = s.link ∧ (journalReleaseRule x0 s).1.settings = s.settings ∧
    (journalReleaseRule x0 s).1.freeCount = s.freeCount ∧ (journalReleaseRule x0 s).1.pending = s.pending := by
  unfold journalReleaseRule accept refuse
  (try dsimp only); (repeat' split) <;> (try simp) <;> (try (split <;> simp))

@[simp] theorem setSuppress_frame (x0 : Printer) (x1 : Bool) (s : State) :
    (setSuppress x0 x1 s).part = s.part ∧ (setSuppress x0 x1 s).intakes = s.intakes ∧ (setSuppress x0 x1 s).sync = s.sync ∧
    (setSuppress x0 x1 s).chains = s.chains ∧ (setSuppress x0 x1 s).nextCapture = s.nextCapture ∧
    (setSuppress x0 x1 s).inputs = s.inputs ∧ (setSuppress x0 x1 s).recent = s.recent ∧
    (setSuppress x0 x1 s).readerErrors = s.readerErrors ∧ (setSuppress x0 x1 s).gates = s.gates ∧
    (setSuppress x0 x1 s).alloc = s.alloc ∧ (setSuppress x0 x1 s).time = s.time ∧ (setSuppress x0 x1 s).watch = s.watch ∧
    (setSuppress x0 x1 s).settings = s.settings ∧ (setSuppress x0 x1 s).freeCount = s.freeCount ∧
    (setSuppress x0 x1 s).pending = s.pending := by
  unfold setSuppress
  (try dsimp only); (repeat' split) <;> (try simp) <;> (try simp_all)

@[simp] theorem printSuppressRule_frame (x0 : List Text) (s : State) :
    (printSuppressRule x0 s).1.part = s.part ∧ (printSuppressRule x0 s).1.intakes = s.intakes ∧
    (printSuppressRule x0 s).1.sync = s.sync ∧ (printSuppressRule x0 s).1.chains = s.chains ∧
    (printSuppressRule x0 s).1.nextCapture = s.nextCapture ∧ (printSuppressRule x0 s).1.inputs = s.inputs ∧
    (printSuppressRule x0 s).1.recent = s.recent ∧ (printSuppressRule x0 s).1.readerErrors = s.readerErrors ∧
    (printSuppressRule x0 s).1.gates = s.gates ∧ (printSuppressRule x0 s).1.alloc = s.alloc ∧
    (printSuppressRule x0 s).1.time = s.time ∧ (printSuppressRule x0 s).1.watch = s.watch ∧
    (printSuppressRule x0 s).1.settings = s.settings ∧ (printSuppressRule x0 s).1.freeCount = s.freeCount ∧
    (printSuppressRule x0 s).1.pending = s.pending := by
  unfold printSuppressRule accept refuse
  (try dsimp only); (repeat' split) <;> (try simp) <;> (try (split <;> simp))

@[simp] theorem reprintRule_frame (x0 : List Text) (s : State) :
    (reprintRule x0 s).1.part = s.part ∧ (reprintRule x0 s).1.intakes = s.intakes ∧ (reprintRule x0 s).1.sync = s.sync ∧
    (reprintRule x0 s).1.chains = s.chains ∧ (reprintRule x0 s).1.nextCapture = s.nextCapture ∧
    (reprintRule x0 s).1.inputs = s.inputs ∧ (reprintRule x0 s).1.drives = s.drives ∧
    (reprintRule x0 s).1.beacons = s.beacons ∧ (reprintRule x0 s).1.bars = s.bars ∧ (reprintRule x0 s).1.recent = s.recent ∧
    (reprintRule x0 s).1.readerErrors = s.readerErrors ∧ (reprintRule x0 s).1.gates = s.gates ∧
    (reprintRule x0 s).1.plat = s.plat ∧ (reprintRule x0 s).1.alloc = s.alloc ∧ (reprintRule x0 s).1.tables = s.tables ∧
    (reprintRule x0 s).1.visits = s.visits ∧ (reprintRule x0 s).1.time = s.time ∧ (reprintRule x0 s).1.watch = s.watch ∧
    (reprintRule x0 s).1.link = s.link ∧ (reprintRule x0 s).1.settings = s.settings ∧
    (reprintRule x0 s).1.freeCount = s.freeCount ∧ (reprintRule x0 s).1.pending = s.pending := by
  unfold reprintRule accept refuse
  (try dsimp only); (repeat' split) <;> (try simp) <;> (try (split <;> simp))

end Sys2Proof.Machine
end

