-- ==== Sys2Proof/Laws/FramesSystem.lean ====
section
/-! SUPPORT. Frames: the parts of the state that each operation leaves as they are, for settings, clock, start-up and ticks. -/

set_option linter.unusedTactic false
set_option linter.unreachableTactic false
set_option linter.unnecessarySeqFocus false

namespace Sys2Proof.Machine

@[simp] theorem settingsReadRule_frame (x0 : List Text) (s : State) :
    (settingsReadRule x0 s).1.part = s.part ∧ (settingsReadRule x0 s).1.intakes = s.intakes ∧
    (settingsReadRule x0 s).1.sync = s.sync ∧ (settingsReadRule x0 s).1.chains = s.chains ∧
    (settingsReadRule x0 s).1.nextCapture = s.nextCapture ∧ (settingsReadRule x0 s).1.inputs = s.inputs ∧
    (settingsReadRule x0 s).1.drives = s.drives ∧ (settingsReadRule x0 s).1.beacons = s.beacons ∧
    (settingsReadRule x0 s).1.bars = s.bars ∧ (settingsReadRule x0 s).1.recent = s.recent ∧
    (settingsReadRule x0 s).1.readerErrors = s.readerErrors ∧ (settingsReadRule x0 s).1.gates = s.gates ∧
    (settingsReadRule x0 s).1.plat = s.plat ∧ (settingsReadRule x0 s).1.alloc = s.alloc ∧
    (settingsReadRule x0 s).1.tables = s.tables ∧ (settingsReadRule x0 s).1.visits = s.visits ∧
    (settingsReadRule x0 s).1.tickets = s.tickets ∧ (settingsReadRule x0 s).1.time = s.time ∧
    (settingsReadRule x0 s).1.watch = s.watch ∧ (settingsReadRule x0 s).1.link = s.link ∧
    (settingsReadRule x0 s).1.settings = s.settings ∧ (settingsReadRule x0 s).1.freeCount = s.freeCount ∧
    (settingsReadRule x0 s).1.pending = s.pending := by
  unfold settingsReadRule accept refuse
  (try dsimp only); (repeat' split) <;> (try simp) <;> (try (split <;> simp))

@[simp] theorem startWrite_frame (x0 : SectionVals) (s : State) :
    (startWrite x0 s).part = s.part ∧ (startWrite x0 s).intakes = s.intakes ∧ (startWrite x0 s).sync = s.sync ∧
    (startWrite x0 s).chains = s.chains ∧ (startWrite x0 s).nextCapture = s.nextCapture ∧
    (startWrite x0 s).inputs = s.inputs ∧ (startWrite x0 s).drives = s.drives ∧ (startWrite x0 s).beacons = s.beacons ∧
    (startWrite x0 s).bars = s.bars ∧ (startWrite x0 s).recent = s.recent ∧
    (startWrite x0 s).readerErrors = s.readerErrors ∧ (startWrite x0 s).gates = s.gates ∧ (startWrite x0 s).plat = s.plat ∧
    (startWrite x0 s).alloc = s.alloc ∧ (startWrite x0 s).tables = s.tables ∧ (startWrite x0 s).visits = s.visits ∧
    (startWrite x0 s).tickets = s.tickets ∧ (startWrite x0 s).time = s.time ∧ (startWrite x0 s).watch = s.watch ∧
    (startWrite x0 s).link = s.link ∧ (startWrite x0 s).freeCount = s.freeCount ∧
    (startWrite x0 s).pending = s.pending := by
  unfold startWrite
  (try dsimp only); (repeat' split) <;> (try simp) <;> (try simp_all)

@[simp] theorem settingsWriteRule_frame (x0 : List Text) (s : State) :
    (settingsWriteRule x0 s).1.part = s.part ∧ (settingsWriteRule x0 s).1.intakes = s.intakes ∧
    (settingsWriteRule x0 s).1.sync = s.sync ∧ (settingsWriteRule x0 s).1.chains = s.chains ∧
    (settingsWriteRule x0 s).1.nextCapture = s.nextCapture ∧ (settingsWriteRule x0 s).1.inputs = s.inputs ∧
    (settingsWriteRule x0 s).1.drives = s.drives ∧ (settingsWriteRule x0 s).1.beacons = s.beacons ∧
    (settingsWriteRule x0 s).1.bars = s.bars ∧ (settingsWriteRule x0 s).1.recent = s.recent ∧
    (settingsWriteRule x0 s).1.readerErrors = s.readerErrors ∧ (settingsWriteRule x0 s).1.gates = s.gates ∧
    (settingsWriteRule x0 s).1.plat = s.plat ∧ (settingsWriteRule x0 s).1.alloc = s.alloc ∧
    (settingsWriteRule x0 s).1.tables = s.tables ∧ (settingsWriteRule x0 s).1.visits = s.visits ∧
    (settingsWriteRule x0 s).1.tickets = s.tickets ∧ (settingsWriteRule x0 s).1.time = s.time ∧
    (settingsWriteRule x0 s).1.watch = s.watch ∧ (settingsWriteRule x0 s).1.link = s.link ∧
    (settingsWriteRule x0 s).1.freeCount = s.freeCount ∧ (settingsWriteRule x0 s).1.pending = s.pending := by
  unfold settingsWriteRule accept refuse
  (try dsimp only); (repeat' split) <;> (try simp) <;> (try (split <;> simp))

@[simp] theorem endSuspension_frame (x0 : SectionVals) (s : State) :
    (endSuspension x0 s).part = s.part ∧ (endSuspension x0 s).intakes = s.intakes ∧ (endSuspension x0 s).sync = s.sync ∧
    (endSuspension x0 s).nextCapture = s.nextCapture ∧ (endSuspension x0 s).inputs = s.inputs ∧
    (endSuspension x0 s).drives = s.drives ∧ (endSuspension x0 s).beacons = s.beacons ∧ (endSuspension x0 s).bars = s.bars ∧
    (endSuspension x0 s).recent = s.recent ∧ (endSuspension x0 s).readerErrors = s.readerErrors ∧
    (endSuspension x0 s).gates = s.gates ∧ (endSuspension x0 s).plat = s.plat ∧ (endSuspension x0 s).alloc = s.alloc ∧
    (endSuspension x0 s).tables = s.tables ∧ (endSuspension x0 s).visits = s.visits ∧
    (endSuspension x0 s).tickets = s.tickets ∧ (endSuspension x0 s).time = s.time ∧ (endSuspension x0 s).watch = s.watch ∧
    (endSuspension x0 s).link = s.link ∧ (endSuspension x0 s).settings = s.settings ∧
    (endSuspension x0 s).freeCount = s.freeCount ∧ (endSuspension x0 s).pending = s.pending := by
  unfold endSuspension
  (try dsimp only); (repeat' split) <;> (try simp) <;> (try simp_all)

@[simp] theorem applyCal_frame (x0 : Deck) (x1 : Calib) (s : State) :
    (applyCal x0 x1 s).part = s.part ∧ (applyCal x0 x1 s).sync = s.sync ∧ (applyCal x0 x1 s).nextCapture = s.nextCapture ∧
    (applyCal x0 x1 s).inputs = s.inputs ∧ (applyCal x0 x1 s).drives = s.drives ∧ (applyCal x0 x1 s).beacons = s.beacons ∧
    (applyCal x0 x1 s).bars = s.bars ∧ (applyCal x0 x1 s).recent = s.recent ∧
    (applyCal x0 x1 s).readerErrors = s.readerErrors ∧ (applyCal x0 x1 s).gates = s.gates ∧
    (applyCal x0 x1 s).plat = s.plat ∧ (applyCal x0 x1 s).alloc = s.alloc ∧ (applyCal x0 x1 s).tables = s.tables ∧
    (applyCal x0 x1 s).visits = s.visits ∧ (applyCal x0 x1 s).tickets = s.tickets ∧ (applyCal x0 x1 s).time = s.time ∧
    (applyCal x0 x1 s).watch = s.watch ∧ (applyCal x0 x1 s).link = s.link ∧ (applyCal x0 x1 s).freeCount = s.freeCount ∧
    (applyCal x0 x1 s).pending = s.pending := by
  unfold applyCal
  (try dsimp only); (repeat' split) <;> (try simp) <;> (try simp_all)

@[simp] theorem applyPlat_frame (x0 : PlatSet) (s : State) :
    (applyPlat x0 s).part = s.part ∧ (applyPlat x0 s).intakes = s.intakes ∧ (applyPlat x0 s).sync = s.sync ∧
    (applyPlat x0 s).chains = s.chains ∧ (applyPlat x0 s).nextCapture = s.nextCapture ∧ (applyPlat x0 s).inputs = s.inputs ∧
    (applyPlat x0 s).drives = s.drives ∧ (applyPlat x0 s).beacons = s.beacons ∧ (applyPlat x0 s).bars = s.bars ∧
    (applyPlat x0 s).recent = s.recent ∧ (applyPlat x0 s).readerErrors = s.readerErrors ∧ (applyPlat x0 s).gates = s.gates ∧
    (applyPlat x0 s).tables = s.tables ∧ (applyPlat x0 s).visits = s.visits ∧ (applyPlat x0 s).tickets = s.tickets ∧
    (applyPlat x0 s).time = s.time ∧ (applyPlat x0 s).watch = s.watch ∧ (applyPlat x0 s).link = s.link ∧
    (applyPlat x0 s).freeCount = s.freeCount ∧ (applyPlat x0 s).pending = s.pending := by
  unfold applyPlat
  (try dsimp only); (repeat' split) <;> (try simp) <;> (try simp_all)

@[simp] theorem applySection_frame (x0 : SectionVals) (s : State) :
    (applySection x0 s).part = s.part ∧ (applySection x0 s).nextCapture = s.nextCapture ∧
    (applySection x0 s).readerErrors = s.readerErrors ∧ (applySection x0 s).tables = s.tables ∧
    (applySection x0 s).tickets = s.tickets ∧ (applySection x0 s).time = s.time ∧ (applySection x0 s).watch = s.watch ∧
    (applySection x0 s).freeCount = s.freeCount ∧ (applySection x0 s).pending = s.pending := by
  unfold applySection
  (try dsimp only); (repeat' split) <;> (try simp) <;> (try simp_all)

@[simp] theorem endWrite_frame (s : State) :
    (endWrite s).part = s.part ∧ (endWrite s).intakes = s.intakes ∧ (endWrite s).sync = s.sync ∧
    (endWrite s).chains = s.chains ∧ (endWrite s).nextCapture = s.nextCapture ∧ (endWrite s).inputs = s.inputs ∧
    (endWrite s).drives = s.drives ∧ (endWrite s).beacons = s.beacons ∧ (endWrite s).bars = s.bars ∧
    (endWrite s).recent = s.recent ∧ (endWrite s).readerErrors = s.readerErrors ∧ (endWrite s).gates = s.gates ∧
    (endWrite s).plat = s.plat ∧ (endWrite s).alloc = s.alloc ∧ (endWrite s).tables = s.tables ∧
    (endWrite s).visits = s.visits ∧ (endWrite s).tickets = s.tickets ∧ (endWrite s).time = s.time ∧
    (endWrite s).watch = s.watch ∧ (endWrite s).link = s.link ∧ (endWrite s).freeCount = s.freeCount ∧
    (endWrite s).pending = s.pending := by
  unfold endWrite
  (try dsimp only); (repeat' split) <;> (try simp) <;> (try simp_all)

@[simp] theorem completeWrite_frame (x0 : SectionVals) (s : State) :
    (completeWrite x0 s).part = s.part ∧ (completeWrite x0 s).nextCapture = s.nextCapture ∧
    (completeWrite x0 s).readerErrors = s.readerErrors ∧ (completeWrite x0 s).tables = s.tables ∧
    (completeWrite x0 s).tickets = s.tickets ∧ (completeWrite x0 s).time = s.time ∧ (completeWrite x0 s).watch = s.watch ∧
    (completeWrite x0 s).freeCount = s.freeCount ∧ (completeWrite x0 s).pending = s.pending := by
  unfold completeWrite
  (try dsimp only); (repeat' split) <;> (try simp) <;> (try simp_all)

@[simp] theorem noteAck_frame (x0 : Write) (s : State) :
    (noteAck x0 s).part = s.part ∧ (noteAck x0 s).intakes = s.intakes ∧ (noteAck x0 s).sync = s.sync ∧
    (noteAck x0 s).chains = s.chains ∧ (noteAck x0 s).nextCapture = s.nextCapture ∧ (noteAck x0 s).inputs = s.inputs ∧
    (noteAck x0 s).drives = s.drives ∧ (noteAck x0 s).beacons = s.beacons ∧ (noteAck x0 s).bars = s.bars ∧
    (noteAck x0 s).recent = s.recent ∧ (noteAck x0 s).readerErrors = s.readerErrors ∧ (noteAck x0 s).gates = s.gates ∧
    (noteAck x0 s).plat = s.plat ∧ (noteAck x0 s).alloc = s.alloc ∧ (noteAck x0 s).tables = s.tables ∧
    (noteAck x0 s).visits = s.visits ∧ (noteAck x0 s).tickets = s.tickets ∧ (noteAck x0 s).time = s.time ∧
    (noteAck x0 s).watch = s.watch ∧ (noteAck x0 s).link = s.link ∧ (noteAck x0 s).freeCount = s.freeCount ∧
    (noteAck x0 s).pending = s.pending := by
  unfold noteAck
  (try dsimp only); (repeat' split) <;> (try simp) <;> (try simp_all)

@[simp] theorem transferAck_frame (s : State) :
    (transferAck s).part = s.part ∧ (transferAck s).nextCapture = s.nextCapture ∧
    (transferAck s).readerErrors = s.readerErrors ∧ (transferAck s).tables = s.tables ∧
    (transferAck s).tickets = s.tickets ∧ (transferAck s).time = s.time ∧ (transferAck s).watch = s.watch ∧
    (transferAck s).freeCount = s.freeCount ∧ (transferAck s).pending = s.pending := by
  unfold transferAck
  (try dsimp only); (repeat' split) <;> (try simp) <;> (try simp_all)

@[simp] theorem spoilWrite_frame (s : State) :
    (spoilWrite s).part = s.part ∧ (spoilWrite s).intakes = s.intakes ∧ (spoilWrite s).sync = s.sync ∧
    (spoilWrite s).chains = s.chains ∧ (spoilWrite s).nextCapture = s.nextCapture ∧ (spoilWrite s).inputs = s.inputs ∧
    (spoilWrite s).drives = s.drives ∧ (spoilWrite s).beacons = s.beacons ∧ (spoilWrite s).bars = s.bars ∧
    (spoilWrite s).recent = s.recent ∧ (spoilWrite s).readerErrors = s.readerErrors ∧ (spoilWrite s).gates = s.gates ∧
    (spoilWrite s).plat = s.plat ∧ (spoilWrite s).alloc = s.alloc ∧ (spoilWrite s).tables = s.tables ∧
    (spoilWrite s).visits = s.visits ∧ (spoilWrite s).tickets = s.tickets ∧ (spoilWrite s).time = s.time ∧
    (spoilWrite s).watch = s.watch ∧ (spoilWrite s).link = s.link ∧ (spoilWrite s).pending = s.pending := by
  unfold spoilWrite
  (try dsimp only); (repeat' split) <;> (try simp) <;> (try simp_all)

@[simp] theorem transferTimeoutFires_frame (s : State) :
    (transferTimeoutFires s).part = s.part ∧ (transferTimeoutFires s).intakes = s.intakes ∧
    (transferTimeoutFires s).sync = s.sync ∧ (transferTimeoutFires s).nextCapture = s.nextCapture ∧
    (transferTimeoutFires s).inputs = s.inputs ∧ (transferTimeoutFires s).drives = s.drives ∧
    (transferTimeoutFires s).beacons = s.beacons ∧ (transferTimeoutFires s).bars = s.bars ∧
    (transferTimeoutFires s).recent = s.recent ∧ (transferTimeoutFires s).readerErrors = s.readerErrors ∧
    (transferTimeoutFires s).gates = s.gates ∧ (transferTimeoutFires s).plat = s.plat ∧
    (transferTimeoutFires s).alloc = s.alloc ∧ (transferTimeoutFires s).tables = s.tables ∧
    (transferTimeoutFires s).visits = s.visits ∧ (transferTimeoutFires s).tickets = s.tickets ∧
    (transferTimeoutFires s).time = s.time ∧ (transferTimeoutFires s).watch = s.watch ∧
    (transferTimeoutFires s).pending = s.pending := by
  unfold transferTimeoutFires
  (try dsimp only); (repeat' split) <;> (try simp) <;> (try simp_all)

@[simp] theorem rollover_frame (x0 : Nat) (x1 : String) (s : State) :
    (rollover x0 x1 s).part = s.part ∧ (rollover x0 x1 s).intakes = s.intakes ∧ (rollover x0 x1 s).sync = s.sync ∧
    (rollover x0 x1 s).chains = s.chains ∧ (rollover x0 x1 s).nextCapture = s.nextCapture ∧
    (rollover x0 x1 s).inputs = s.inputs ∧ (rollover x0 x1 s).drives = s.drives ∧ (rollover x0 x1 s).beacons = s.beacons ∧
    (rollover x0 x1 s).bars = s.bars ∧ (rollover x0 x1 s).recent = s.recent ∧
    (rollover x0 x1 s).readerErrors = s.readerErrors ∧ (rollover x0 x1 s).gates = s.gates ∧
    (rollover x0 x1 s).plat = s.plat ∧ (rollover x0 x1 s).alloc = s.alloc ∧ (rollover x0 x1 s).visits = s.visits ∧
    (rollover x0 x1 s).tickets = s.tickets ∧ (rollover x0 x1 s).watch = s.watch ∧ (rollover x0 x1 s).settings = s.settings ∧
    (rollover x0 x1 s).freeCount = s.freeCount ∧ (rollover x0 x1 s).pending = s.pending := by
  unfold rollover
  (try dsimp only); (repeat' split) <;> (try simp) <;> (try simp_all)

@[simp] theorem advanceClock_frame (s : State) :
    (advanceClock s).part = s.part ∧ (advanceClock s).intakes = s.intakes ∧ (advanceClock s).sync = s.sync ∧
    (advanceClock s).chains = s.chains ∧ (advanceClock s).nextCapture = s.nextCapture ∧ (advanceClock s).inputs = s.inputs ∧
    (advanceClock s).drives = s.drives ∧ (advanceClock s).beacons = s.beacons ∧ (advanceClock s).bars = s.bars ∧
    (advanceClock s).recent = s.recent ∧ (advanceClock s).readerErrors = s.readerErrors ∧ (advanceClock s).gates = s.gates ∧
    (advanceClock s).plat = s.plat ∧ (advanceClock s).alloc = s.alloc ∧ (advanceClock s).visits = s.visits ∧
    (advanceClock s).tickets = s.tickets ∧ (advanceClock s).watch = s.watch ∧ (advanceClock s).settings = s.settings ∧
    (advanceClock s).freeCount = s.freeCount ∧ (advanceClock s).pending = s.pending := by
  unfold advanceClock
  (try dsimp only); (repeat' split) <;> (try simp) <;> (try simp_all)

@[simp] theorem secondTick_frame (s : State) :
    (secondTick s).part = s.part ∧ (secondTick s).intakes = s.intakes ∧ (secondTick s).sync = s.sync ∧
    (secondTick s).nextCapture = s.nextCapture ∧ (secondTick s).inputs = s.inputs ∧ (secondTick s).drives = s.drives ∧
    (secondTick s).beacons = s.beacons ∧ (secondTick s).bars = s.bars ∧ (secondTick s).recent = s.recent ∧
    (secondTick s).readerErrors = s.readerErrors ∧ (secondTick s).gates = s.gates ∧ (secondTick s).plat = s.plat ∧
    (secondTick s).alloc = s.alloc ∧ (secondTick s).visits = s.visits ∧ (secondTick s).tickets = s.tickets ∧
    (secondTick s).watch = s.watch ∧ (secondTick s).settings = s.settings ∧ (secondTick s).freeCount = s.freeCount ∧
    (secondTick s).pending = s.pending := by
  unfold secondTick
  (try dsimp only); (repeat' split) <;> (try simp) <;> (try simp_all)

@[simp] theorem setTime_frame (x0 : Nat) (x1 : Nat) (s : State) :
    (setTime x0 x1 s).part = s.part ∧ (setTime x0 x1 s).intakes = s.intakes ∧ (setTime x0 x1 s).sync = s.sync ∧
    (setTime x0 x1 s).chains = s.chains ∧ (setTime x0 x1 s).nextCapture = s.nextCapture ∧
    (setTime x0 x1 s).inputs = s.inputs ∧ (setTime x0 x1 s).drives = s.drives ∧ (setTime x0 x1 s).beacons = s.beacons ∧
    (setTime x0 x1 s).bars = s.bars ∧ (setTime x0 x1 s).recent = s.recent ∧
    (setTime x0 x1 s).readerErrors = s.readerErrors ∧ (setTime x0 x1 s).gates = s.gates ∧ (setTime x0 x1 s).plat = s.plat ∧
    (setTime x0 x1 s).alloc = s.alloc ∧ (setTime x0 x1 s).visits = s.visits ∧ (setTime x0 x1 s).tickets = s.tickets ∧
    (setTime x0 x1 s).watch = s.watch ∧ (setTime x0 x1 s).settings = s.settings ∧
    (setTime x0 x1 s).freeCount = s.freeCount ∧ (setTime x0 x1 s).pending = s.pending := by
  unfold setTime
  (try dsimp only); (repeat' split) <;> (try simp) <;> (try simp_all)

@[simp] theorem timeSetRule_frame (x0 : List Text) (s : State) :
    (timeSetRule x0 s).1.part = s.part ∧ (timeSetRule x0 s).1.intakes = s.intakes ∧ (timeSetRule x0 s).1.sync = s.sync ∧
    (timeSetRule x0 s).1.chains = s.chains ∧ (timeSetRule x0 s).1.nextCapture = s.nextCapture ∧
    (timeSetRule x0 s).1.inputs = s.inputs ∧ (timeSetRule x0 s).1.drives = s.drives ∧
    (timeSetRule x0 s).1.beacons = s.beacons ∧ (timeSetRule x0 s).1.bars = s.bars ∧ (timeSetRule x0 s).1.recent = s.recent ∧
    (timeSetRule x0 s).1.readerErrors = s.readerErrors ∧ (timeSetRule x0 s).1.gates = s.gates ∧
    (timeSetRule x0 s).1.plat = s.plat ∧ (timeSetRule x0 s).1.alloc = s.alloc ∧ (timeSetRule x0 s).1.visits = s.visits ∧
    (timeSetRule x0 s).1.tickets = s.tickets ∧ (timeSetRule x0 s).1.watch = s.watch ∧
    (timeSetRule x0 s).1.settings = s.settings ∧ (timeSetRule x0 s).1.freeCount = s.freeCount ∧
    (timeSetRule x0 s).1.pending = s.pending := by
  unfold timeSetRule accept refuse
  (try dsimp only); (repeat' split) <;> (try simp) <;> (try (split <;> simp))

@[simp] theorem armWatch_frame (x0 : Nat) (s : State) :
    (armWatch x0 s).part = s.part ∧ (armWatch x0 s).intakes = s.intakes ∧ (armWatch x0 s).sync = s.sync ∧
    (armWatch x0 s).chains = s.chains ∧ (armWatch x0 s).nextCapture = s.nextCapture ∧ (armWatch x0 s).inputs = s.inputs ∧
    (armWatch x0 s).drives = s.drives ∧ (armWatch x0 s).beacons = s.beacons ∧ (armWatch x0 s).bars = s.bars ∧
    (armWatch x0 s).recent = s.recent ∧ (armWatch x0 s).readerErrors = s.readerErrors ∧ (armWatch x0 s).gates = s.gates ∧
    (armWatch x0 s).plat = s.plat ∧ (armWatch x0 s).alloc = s.alloc ∧ (armWatch x0 s).tables = s.tables ∧
    (armWatch x0 s).visits = s.visits ∧ (armWatch x0 s).tickets = s.tickets ∧ (armWatch x0 s).time = s.time ∧
    (armWatch x0 s).settings = s.settings ∧ (armWatch x0 s).freeCount = s.freeCount ∧
    (armWatch x0 s).pending = s.pending := by
  unfold armWatch
  (try dsimp only); (repeat' split) <;> (try simp) <;> (try simp_all)

@[simp] theorem linkWatchRule_frame (x0 : List Text) (s : State) :
    (linkWatchRule x0 s).1.part = s.part ∧ (linkWatchRule x0 s).1.intakes = s.intakes ∧
    (linkWatchRule x0 s).1.sync = s.sync ∧ (linkWatchRule x0 s).1.chains = s.chains ∧
    (linkWatchRule x0 s).1.nextCapture = s.nextCapture ∧ (linkWatchRule x0 s).1.inputs = s.inputs ∧
    (linkWatchRule x0 s).1.drives = s.drives ∧ (linkWatchRule x0 s).1.beacons = s.beacons ∧
    (linkWatchRule x0 s).1.bars = s.bars ∧ (linkWatchRule x0 s).1.recent = s.recent ∧
    (linkWatchRule x0 s).1.readerErrors = s.readerErrors ∧ (linkWatchRule x0 s).1.gates = s.gates ∧
    (linkWatchRule x0 s).1.plat = s.plat ∧ (linkWatchRule x0 s).1.alloc = s.alloc ∧
    (linkWatchRule x0 s).1.tables = s.tables ∧ (linkWatchRule x0 s).1.visits = s.visits ∧
    (linkWatchRule x0 s).1.tickets = s.tickets ∧ (linkWatchRule x0 s).1.time = s.time ∧
    (linkWatchRule x0 s).1.settings = s.settings ∧ (linkWatchRule x0 s).1.freeCount = s.freeCount ∧
    (linkWatchRule x0 s).1.pending = s.pending := by
  unfold linkWatchRule accept refuse
  (try dsimp only); (repeat' split) <;> (try simp) <;> (try (split <;> simp))

@[simp] theorem endWaitOffline_frame (s : State) :
    (endWaitOffline s).part = s.part ∧ (endWaitOffline s).intakes = s.intakes ∧ (endWaitOffline s).sync = s.sync ∧
    (endWaitOffline s).chains = s.chains ∧ (endWaitOffline s).nextCapture = s.nextCapture ∧
    (endWaitOffline s).inputs = s.inputs ∧ (endWaitOffline s).drives = s.drives ∧ (endWaitOffline s).beacons = s.beacons ∧
    (endWaitOffline s).bars = s.bars ∧ (endWaitOffline s).recent = s.recent ∧
    (endWaitOffline s).readerErrors = s.readerErrors ∧ (endWaitOffline s).plat = s.plat ∧
    (endWaitOffline s).alloc = s.alloc ∧ (endWaitOffline s).tables = s.tables ∧ (endWaitOffline s).visits = s.visits ∧
    (endWaitOffline s).tickets = s.tickets ∧ (endWaitOffline s).time = s.time ∧ (endWaitOffline s).watch = s.watch ∧
    (endWaitOffline s).settings = s.settings ∧ (endWaitOffline s).freeCount = s.freeCount ∧
    (endWaitOffline s).pending = s.pending := by
  unfold endWaitOffline
  (try dsimp only); (repeat' split) <;> (try simp) <;> (try simp_all)

@[simp] theorem goOffline_frame (s : State) :
    (goOffline s).part = s.part ∧ (goOffline s).intakes = s.intakes ∧ (goOffline s).sync = s.sync ∧
    (goOffline s).chains = s.chains ∧ (goOffline s).nextCapture = s.nextCapture ∧ (goOffline s).inputs = s.inputs ∧
    (goOffline s).drives = s.drives ∧ (goOffline s).beacons = s.beacons ∧ (goOffline s).bars = s.bars ∧
    (goOffline s).recent = s.recent ∧ (goOffline s).readerErrors = s.readerErrors ∧ (goOffline s).plat = s.plat ∧
    (goOffline s).alloc = s.alloc ∧ (goOffline s).tables = s.tables ∧ (goOffline s).visits = s.visits ∧
    (goOffline s).tickets = s.tickets ∧ (goOffline s).time = s.time ∧ (goOffline s).settings = s.settings ∧
    (goOffline s).freeCount = s.freeCount ∧ (goOffline s).pending = s.pending := by
  unfold goOffline
  (try dsimp only); (repeat' split) <;> (try simp) <;> (try simp_all)

@[simp] theorem silenceFires_frame (s : State) :
    (silenceFires s).part = s.part ∧ (silenceFires s).intakes = s.intakes ∧ (silenceFires s).sync = s.sync ∧
    (silenceFires s).chains = s.chains ∧ (silenceFires s).nextCapture = s.nextCapture ∧ (silenceFires s).inputs = s.inputs ∧
    (silenceFires s).drives = s.drives ∧ (silenceFires s).beacons = s.beacons ∧ (silenceFires s).bars = s.bars ∧
    (silenceFires s).recent = s.recent ∧ (silenceFires s).readerErrors = s.readerErrors ∧ (silenceFires s).plat = s.plat ∧
    (silenceFires s).alloc = s.alloc ∧ (silenceFires s).tables = s.tables ∧ (silenceFires s).visits = s.visits ∧
    (silenceFires s).tickets = s.tickets ∧ (silenceFires s).time = s.time ∧ (silenceFires s).settings = s.settings ∧
    (silenceFires s).freeCount = s.freeCount ∧ (silenceFires s).pending = s.pending := by
  unfold silenceFires
  (try dsimp only); (repeat' split) <;> (try simp) <;> (try simp_all)

@[simp] theorem collectLatch_frame (x0 : NoticeClass) (s : State) :
    (collectLatch x0 s).part = s.part ∧ (collectLatch x0 s).intakes = s.intakes ∧ (collectLatch x0 s).sync = s.sync ∧
    (collectLatch x0 s).chains = s.chains ∧ (collectLatch x0 s).nextCapture = s.nextCapture ∧
    (collectLatch x0 s).inputs = s.inputs ∧ (collectLatch x0 s).drives = s.drives ∧
    (collectLatch x0 s).beacons = s.beacons ∧ (collectLatch x0 s).bars = s.bars ∧ (collectLatch x0 s).recent = s.recent ∧
    (collectLatch x0 s).readerErrors = s.readerErrors ∧ (collectLatch x0 s).gates = s.gates ∧
    (collectLatch x0 s).plat = s.plat ∧ (collectLatch x0 s).alloc = s.alloc ∧ (collectLatch x0 s).tables = s.tables ∧
    (collectLatch x0 s).visits = s.visits ∧ (collectLatch x0 s).tickets = s.tickets ∧ (collectLatch x0 s).time = s.time ∧
    (collectLatch x0 s).watch = s.watch ∧ (collectLatch x0 s).settings = s.settings ∧
    (collectLatch x0 s).freeCount = s.freeCount ∧ (collectLatch x0 s).pending = s.pending := by
  unfold collectLatch
  (try dsimp only); (repeat' split) <;> (try simp) <;> (try simp_all)

@[simp] theorem goOnline_frame (s : State) :
    (goOnline s).part = s.part ∧ (goOnline s).intakes = s.intakes ∧ (goOnline s).sync = s.sync ∧
    (goOnline s).chains = s.chains ∧ (goOnline s).nextCapture = s.nextCapture ∧ (goOnline s).inputs = s.inputs ∧
    (goOnline s).drives = s.drives ∧ (goOnline s).beacons = s.beacons ∧ (goOnline s).bars = s.bars ∧
    (goOnline s).recent = s.recent ∧ (goOnline s).readerErrors = s.readerErrors ∧ (goOnline s).gates = s.gates ∧
    (goOnline s).plat = s.plat ∧ (goOnline s).alloc = s.alloc ∧ (goOnline s).tables = s.tables ∧
    (goOnline s).visits = s.visits ∧ (goOnline s).tickets = s.tickets ∧ (goOnline s).time = s.time ∧
    (goOnline s).settings = s.settings ∧ (goOnline s).freeCount = s.freeCount ∧ (goOnline s).pending = s.pending := by
  unfold goOnline
  (try dsimp only); (repeat' split) <;> (try simp) <;> (try simp_all)

@[simp] theorem frameReceived_frame (s : State) :
    (frameReceived s).part = s.part ∧ (frameReceived s).intakes = s.intakes ∧ (frameReceived s).sync = s.sync ∧
    (frameReceived s).chains = s.chains ∧ (frameReceived s).nextCapture = s.nextCapture ∧
    (frameReceived s).inputs = s.inputs ∧ (frameReceived s).drives = s.drives ∧ (frameReceived s).beacons = s.beacons ∧
    (frameReceived s).bars = s.bars ∧ (frameReceived s).recent = s.recent ∧
    (frameReceived s).readerErrors = s.readerErrors ∧ (frameReceived s).gates = s.gates ∧ (frameReceived s).plat = s.plat ∧
    (frameReceived s).alloc = s.alloc ∧ (frameReceived s).tables = s.tables ∧ (frameReceived s).visits = s.visits ∧
    (frameReceived s).tickets = s.tickets ∧ (frameReceived s).time = s.time ∧ (frameReceived s).settings = s.settings ∧
    (frameReceived s).freeCount = s.freeCount ∧ (frameReceived s).pending = s.pending := by
  unfold frameReceived
  (try dsimp only); (repeat' split) <;> (try simp) <;> (try simp_all)

@[simp] theorem setClass_frame (x0 : NoticeClass) (x1 : Bool) (s : State) :
    (setClass x0 x1 s).part = s.part ∧ (setClass x0 x1 s).intakes = s.intakes ∧ (setClass x0 x1 s).sync = s.sync ∧
    (setClass x0 x1 s).chains = s.chains ∧ (setClass x0 x1 s).nextCapture = s.nextCapture ∧
    (setClass x0 x1 s).inputs = s.inputs ∧ (setClass x0 x1 s).drives = s.drives ∧ (setClass x0 x1 s).beacons = s.beacons ∧
    (setClass x0 x1 s).bars = s.bars ∧ (setClass x0 x1 s).recent = s.recent ∧
    (setClass x0 x1 s).readerErrors = s.readerErrors ∧ (setClass x0 x1 s).gates = s.gates ∧
    (setClass x0 x1 s).plat = s.plat ∧ (setClass x0 x1 s).alloc = s.alloc ∧ (setClass x0 x1 s).tables = s.tables ∧
    (setClass x0 x1 s).visits = s.visits ∧ (setClass x0 x1 s).tickets = s.tickets ∧ (setClass x0 x1 s).time = s.time ∧
    (setClass x0 x1 s).watch = s.watch ∧ (setClass x0 x1 s).settings = s.settings ∧
    (setClass x0 x1 s).freeCount = s.freeCount ∧ (setClass x0 x1 s).pending = s.pending := by
  unfold setClass
  (try dsimp only); (repeat' split) <;> (try simp) <;> (try simp_all)

@[simp] theorem noticeEnableRule_frame (x0 : List Text) (s : State) :
    (noticeEnableRule x0 s).1.part = s.part ∧ (noticeEnableRule x0 s).1.intakes = s.intakes ∧
    (noticeEnableRule x0 s).1.sync = s.sync ∧ (noticeEnableRule x0 s).1.chains = s.chains ∧
    (noticeEnableRule x0 s).1.nextCapture = s.nextCapture ∧ (noticeEnableRule x0 s).1.inputs = s.inputs ∧
    (noticeEnableRule x0 s).1.drives = s.drives ∧ (noticeEnableRule x0 s).1.beacons = s.beacons ∧
    (noticeEnableRule x0 s).1.bars = s.bars ∧ (noticeEnableRule x0 s).1.recent = s.recent ∧
    (noticeEnableRule x0 s).1.readerErrors = s.readerErrors ∧ (noticeEnableRule x0 s).1.gates = s.gates ∧
    (noticeEnableRule x0 s).1.plat = s.plat ∧ (noticeEnableRule x0 s).1.alloc = s.alloc ∧
    (noticeEnableRule x0 s).1.tables = s.tables ∧ (noticeEnableRule x0 s).1.visits = s.visits ∧
    (noticeEnableRule x0 s).1.tickets = s.tickets ∧ (noticeEnableRule x0 s).1.time = s.time ∧
    (noticeEnableRule x0 s).1.watch = s.watch ∧ (noticeEnableRule x0 s).1.settings = s.settings ∧
    (noticeEnableRule x0 s).1.freeCount = s.freeCount ∧ (noticeEnableRule x0 s).1.pending = s.pending := by
  unfold noticeEnableRule accept refuse
  (try dsimp only); (repeat' split) <;> (try simp) <;> (try (split <;> simp))

@[simp] theorem statusRule_frame (x0 : List Text) (s : State) :
    (statusRule x0 s).1.part = s.part ∧ (statusRule x0 s).1.intakes = s.intakes ∧ (statusRule x0 s).1.sync = s.sync ∧
    (statusRule x0 s).1.chains = s.chains ∧ (statusRule x0 s).1.nextCapture = s.nextCapture ∧
    (statusRule x0 s).1.inputs = s.inputs ∧ (statusRule x0 s).1.drives = s.drives ∧
    (statusRule x0 s).1.beacons = s.beacons ∧ (statusRule x0 s).1.bars = s.bars ∧ (statusRule x0 s).1.recent = s.recent ∧
    (statusRule x0 s).1.readerErrors = s.readerErrors ∧ (statusRule x0 s).1.gates = s.gates ∧
    (statusRule x0 s).1.plat = s.plat ∧ (statusRule x0 s).1.alloc = s.alloc ∧ (statusRule x0 s).1.tables = s.tables ∧
    (statusRule x0 s).1.visits = s.visits ∧ (statusRule x0 s).1.tickets = s.tickets ∧ (statusRule x0 s).1.time = s.time ∧
    (statusRule x0 s).1.watch = s.watch ∧ (statusRule x0 s).1.link = s.link ∧ (statusRule x0 s).1.settings = s.settings ∧
    (statusRule x0 s).1.freeCount = s.freeCount ∧ (statusRule x0 s).1.pending = s.pending := by
  unfold statusRule accept refuse
  (try dsimp only); (repeat' split) <;> (try simp) <;> (try (split <;> simp))

@[simp] theorem restartRule_frame (x0 : List Text) (s : State) :
    (restartRule x0 s).1.part = s.part ∧ (restartRule x0 s).1.intakes = s.intakes ∧ (restartRule x0 s).1.sync = s.sync ∧
    (restartRule x0 s).1.chains = s.chains ∧ (restartRule x0 s).1.nextCapture = s.nextCapture ∧
    (restartRule x0 s).1.inputs = s.inputs ∧ (restartRule x0 s).1.drives = s.drives ∧
    (restartRule x0 s).1.beacons = s.beacons ∧ (restartRule x0 s).1.bars = s.bars ∧ (restartRule x0 s).1.recent = s.recent ∧
    (restartRule x0 s).1.readerErrors = s.readerErrors ∧ (restartRule x0 s).1.gates = s.gates ∧
    (restartRule x0 s).1.plat = s.plat ∧ (restartRule x0 s).1.alloc = s.alloc ∧ (restartRule x0 s).1.tables = s.tables ∧
    (restartRule x0 s).1.visits = s.visits ∧ (restartRule x0 s).1.tickets = s.tickets ∧ (restartRule x0 s).1.time = s.time ∧
    (restartRule x0 s).1.watch = s.watch ∧ (restartRule x0 s).1.link = s.link ∧ (restartRule x0 s).1.settings = s.settings ∧
    (restartRule x0 s).1.freeCount = s.freeCount ∧ (restartRule x0 s).1.pending = s.pending := by
  unfold restartRule accept refuse
  (try dsimp only); (repeat' split) <;> (try simp) <;> (try (split <;> simp))

@[simp] theorem ownerRule_frame (x0 : ReqName) (x1 : List Text) (s : State) :
    (ownerRule x0 x1 s).1.part = s.part ∧ (ownerRule x0 x1 s).1.nextCapture = s.nextCapture ∧
    (ownerRule x0 x1 s).1.freeCount = s.freeCount ∧ (ownerRule x0 x1 s).1.pending = s.pending := by
  unfold ownerRule settled
  cases x0 <;> simp

@[simp] theorem takeRequest_frame (x0 : ReqName) (x1 : List Text) (s : State) :
    (takeRequest x0 x1 s).1.part = s.part ∧ (takeRequest x0 x1 s).1.nextCapture = s.nextCapture ∧
    (takeRequest x0 x1 s).1.freeCount = s.freeCount ∧ (takeRequest x0 x1 s).1.pending = s.pending := by
  unfold takeRequest refuse
  split <;> simp

@[simp] theorem enterService_frame (x0 : RxFrame) (s : State) :
    (enterService x0 s).part = s.part ∧ (enterService x0 s).nextCapture = s.nextCapture ∧
    (enterService x0 s).freeCount = s.freeCount ∧ (enterService x0 s).pending = s.pending := by
  unfold enterService
  (try dsimp only); split <;> simp

@[simp] theorem placeFrame_frame (x0 : RxFrame) (s : State) :
    (placeFrame x0 s).part = s.part ∧ (placeFrame x0 s).nextCapture = s.nextCapture ∧
    (placeFrame x0 s).freeCount = s.freeCount ∧ (placeFrame x0 s).pending = s.pending := by
  unfold placeFrame
  (try dsimp only); (repeat' split) <;> (try simp) <;> (try simp_all)

@[simp] theorem frameEnds_frame (x0 : RxFrame) (s : State) :
    (frameEnds x0 s).part = s.part ∧ (frameEnds x0 s).nextCapture = s.nextCapture ∧
    (frameEnds x0 s).freeCount = s.freeCount ∧ (frameEnds x0 s).pending = s.pending := by
  unfold frameEnds
  (try dsimp only); (repeat' split) <;> (try simp) <;> (try simp_all)

@[simp] theorem event_frame (f : State → State) (s : State) :
    (event f s).part = (f s).part ∧ (event f s).intakes = (f s).intakes ∧ (event f s).sync = (f s).sync ∧
    (event f s).chains = (f s).chains ∧ (event f s).nextCapture = (f s).nextCapture ∧ (event f s).inputs = (f s).inputs ∧
    (event f s).drives = (f s).drives ∧ (event f s).beacons = (f s).beacons ∧ (event f s).bars = (f s).bars ∧
    (event f s).recent = (f s).recent ∧ (event f s).readerErrors = (f s).readerErrors ∧ (event f s).gates = (f s).gates ∧
    (event f s).plat = (f s).plat ∧ (event f s).tables = (f s).tables ∧ (event f s).visits = (f s).visits ∧
    (event f s).tickets = (f s).tickets ∧ (event f s).time = (f s).time ∧ (event f s).watch = (f s).watch ∧
    (event f s).settings = (f s).settings ∧ (event f s).freeCount = (f s).freeCount ∧
    (event f s).pending = (f s).pending := by
  simp [event]

@[simp] theorem requestArrives_frame (x0 : ReqName) (x1 : List Text) (s : State) :
    (requestArrives x0 x1 s).part = s.part ∧ (requestArrives x0 x1 s).nextCapture = s.nextCapture ∧
    (requestArrives x0 x1 s).freeCount = s.freeCount ∧ (requestArrives x0 x1 s).pending = s.pending := by
  unfold requestArrives
  (try dsimp only); (repeat' split) <;> (try simp) <;> (try simp_all)

@[simp] theorem replySent_frame (s : State) :
    (replySent s).part = s.part ∧ (replySent s).nextCapture = s.nextCapture ∧ (replySent s).freeCount = s.freeCount ∧
    (replySent s).pending = s.pending := by
  unfold replySent
  (try dsimp only); (repeat' split) <;> (try simp) <;> (try simp_all)

@[simp] theorem mapInputs_frame (f : InputId → Input → Input) (s : State) :
    (mapInputs f s).part = s.part ∧ (mapInputs f s).intakes = s.intakes ∧ (mapInputs f s).sync = s.sync ∧
    (mapInputs f s).chains = s.chains ∧ (mapInputs f s).nextCapture = s.nextCapture ∧ (mapInputs f s).drives = s.drives ∧
    (mapInputs f s).beacons = s.beacons ∧ (mapInputs f s).bars = s.bars ∧ (mapInputs f s).recent = s.recent ∧
    (mapInputs f s).readerErrors = s.readerErrors ∧ (mapInputs f s).gates = s.gates ∧ (mapInputs f s).plat = s.plat ∧
    (mapInputs f s).alloc = s.alloc ∧ (mapInputs f s).tables = s.tables ∧ (mapInputs f s).visits = s.visits ∧
    (mapInputs f s).tickets = s.tickets ∧ (mapInputs f s).time = s.time ∧ (mapInputs f s).watch = s.watch ∧
    (mapInputs f s).link = s.link ∧ (mapInputs f s).settings = s.settings ∧ (mapInputs f s).freeCount = s.freeCount ∧
    (mapInputs f s).pending = s.pending := by
  simp [mapInputs]

@[simp] theorem clearVolatile_frame (s : State) :
    (clearVolatile s).part = s.part ∧ (clearVolatile s).nextCapture = s.nextCapture ∧ (clearVolatile s).inputs = s.inputs ∧
    (clearVolatile s).tables = s.tables ∧ (clearVolatile s).visits = s.visits ∧ (clearVolatile s).link = s.link ∧
    (clearVolatile s).settings = s.settings ∧ (clearVolatile s).freeCount = s.freeCount ∧
    (clearVolatile s).pending = s.pending := by
  unfold clearVolatile
  (try dsimp only); (repeat' split) <;> (try simp) <;> (try simp_all)

@[simp] theorem resetPart_frame (x0 : ResetKind) (x1 : Bool) (x2 : Unacked) (s : State) :
    (resetPart x0 x1 x2 s).nextCapture = s.nextCapture ∧ (resetPart x0 x1 x2 s).tables = s.tables ∧
    (resetPart x0 x1 x2 s).visits = s.visits ∧ (resetPart x0 x1 x2 s).pending = s.pending := by
  simp [resetPart]

@[simp] theorem poweredOn_frame (x0 : Bool) (x1 : Bool) (x2 : Unacked) (s : State) :
    (poweredOn x0 x1 x2 s).nextCapture = s.nextCapture ∧ (poweredOn x0 x1 x2 s).tables = s.tables ∧
    (poweredOn x0 x1 x2 s).visits = s.visits ∧ (poweredOn x0 x1 x2 s).pending = s.pending := by
  unfold poweredOn
  (try dsimp only); (repeat' split) <;> (try simp) <;> (try simp_all)

@[simp] theorem resetBySignature_frame (x0 : Unacked) (s : State) :
    (resetBySignature x0 s).nextCapture = s.nextCapture ∧ (resetBySignature x0 s).tables = s.tables ∧
    (resetBySignature x0 s).visits = s.visits ∧ (resetBySignature x0 s).pending = s.pending := by
  unfold resetBySignature
  (try dsimp only); (repeat' split) <;> (try simp) <;> (try simp_all)

@[simp] theorem startLink_frame (s : State) :
    (startLink s).part = s.part ∧ (startLink s).intakes = s.intakes ∧ (startLink s).sync = s.sync ∧
    (startLink s).chains = s.chains ∧ (startLink s).nextCapture = s.nextCapture ∧ (startLink s).inputs = s.inputs ∧
    (startLink s).drives = s.drives ∧ (startLink s).beacons = s.beacons ∧ (startLink s).bars = s.bars ∧
    (startLink s).recent = s.recent ∧ (startLink s).readerErrors = s.readerErrors ∧ (startLink s).gates = s.gates ∧
    (startLink s).plat = s.plat ∧ (startLink s).alloc = s.alloc ∧ (startLink s).tables = s.tables ∧
    (startLink s).visits = s.visits ∧ (startLink s).tickets = s.tickets ∧ (startLink s).time = s.time ∧
    (startLink s).watch = s.watch ∧ (startLink s).settings = s.settings ∧ (startLink s).freeCount = s.freeCount ∧
    (startLink s).pending = s.pending := by
  unfold startLink
  (try dsimp only); (repeat' split) <;> (try simp) <;> (try simp_all)

@[simp] theorem coldRetained_frame (s : State) :
    (coldRetained s).part = s.part ∧ (coldRetained s).intakes = s.intakes ∧ (coldRetained s).sync = s.sync ∧
    (coldRetained s).chains = s.chains ∧ (coldRetained s).inputs = s.inputs ∧ (coldRetained s).drives = s.drives ∧
    (coldRetained s).beacons = s.beacons ∧ (coldRetained s).bars = s.bars ∧ (coldRetained s).recent = s.recent ∧
    (coldRetained s).readerErrors = s.readerErrors ∧ (coldRetained s).gates = s.gates ∧ (coldRetained s).watch = s.watch ∧
    (coldRetained s).link = s.link ∧ (coldRetained s).settings = s.settings ∧ (coldRetained s).freeCount = s.freeCount ∧
    (coldRetained s).pending = s.pending := by
  unfold coldRetained
  (try dsimp only); (repeat' split) <;> (try simp) <;> (try simp_all)

@[simp] theorem readInputs_frame (s : State) :
    (readInputs s).part = s.part ∧ (readInputs s).intakes = s.intakes ∧ (readInputs s).sync = s.sync ∧
    (readInputs s).chains = s.chains ∧ (readInputs s).nextCapture = s.nextCapture ∧ (readInputs s).drives = s.drives ∧
    (readInputs s).beacons = s.beacons ∧ (readInputs s).bars = s.bars ∧ (readInputs s).recent = s.recent ∧
    (readInputs s).readerErrors = s.readerErrors ∧ (readInputs s).gates = s.gates ∧ (readInputs s).plat = s.plat ∧
    (readInputs s).alloc = s.alloc ∧ (readInputs s).tables = s.tables ∧ (readInputs s).visits = s.visits ∧
    (readInputs s).tickets = s.tickets ∧ (readInputs s).time = s.time ∧ (readInputs s).watch = s.watch ∧
    (readInputs s).link = s.link ∧ (readInputs s).settings = s.settings ∧ (readInputs s).freeCount = s.freeCount ∧
    (readInputs s).pending = s.pending := by
  unfold readInputs
  (try dsimp only); (repeat' split) <;> (try simp) <;> (try simp_all)

@[simp] theorem startBarrier_frame (x0 : Barrier) (s : State) :
    (startBarrier x0 s).part = s.part ∧ (startBarrier x0 s).intakes = s.intakes ∧ (startBarrier x0 s).sync = s.sync ∧
    (startBarrier x0 s).chains = s.chains ∧ (startBarrier x0 s).nextCapture = s.nextCapture ∧
    (startBarrier x0 s).inputs = s.inputs ∧ (startBarrier x0 s).beacons = s.beacons ∧
    (startBarrier x0 s).recent = s.recent ∧ (startBarrier x0 s).readerErrors = s.readerErrors ∧
    (startBarrier x0 s).gates = s.gates ∧ (startBarrier x0 s).plat = s.plat ∧ (startBarrier x0 s).alloc = s.alloc ∧
    (startBarrier x0 s).tables = s.tables ∧ (startBarrier x0 s).visits = s.visits ∧
    (startBarrier x0 s).tickets = s.tickets ∧ (startBarrier x0 s).time = s.time ∧ (startBarrier x0 s).watch = s.watch ∧
    (startBarrier x0 s).settings = s.settings ∧ (startBarrier x0 s).freeCount = s.freeCount ∧
    (startBarrier x0 s).pending = s.pending := by
  unfold startBarrier
  (try dsimp only); (repeat' split) <;> (try simp) <;> (try simp_all)

@[simp] theorem startGate_frame (x0 : Gate) (s : State) :
    (startGate x0 s).part = s.part ∧ (startGate x0 s).intakes = s.intakes ∧ (startGate x0 s).sync = s.sync ∧
    (startGate x0 s).chains = s.chains ∧ (startGate x0 s).nextCapture = s.nextCapture ∧ (startGate x0 s).inputs = s.inputs ∧
    (startGate x0 s).beacons = s.beacons ∧ (startGate x0 s).recent = s.recent ∧
    (startGate x0 s).readerErrors = s.readerErrors ∧ (startGate x0 s).gates = s.gates ∧ (startGate x0 s).plat = s.plat ∧
    (startGate x0 s).alloc = s.alloc ∧ (startGate x0 s).tables = s.tables ∧ (startGate x0 s).visits = s.visits ∧
    (startGate x0 s).tickets = s.tickets ∧ (startGate x0 s).time = s.time ∧ (startGate x0 s).watch = s.watch ∧
    (startGate x0 s).link = s.link ∧ (startGate x0 s).settings = s.settings ∧ (startGate x0 s).freeCount = s.freeCount ∧
    (startGate x0 s).pending = s.pending := by
  unfold startGate
  (try dsimp only); (repeat' split) <;> (try simp) <;> (try simp_all)

@[simp] theorem startPrinters_frame (s : State) :
    (startPrinters s).part = s.part ∧ (startPrinters s).intakes = s.intakes ∧ (startPrinters s).sync = s.sync ∧
    (startPrinters s).chains = s.chains ∧ (startPrinters s).nextCapture = s.nextCapture ∧
    (startPrinters s).inputs = s.inputs ∧ (startPrinters s).drives = s.drives ∧ (startPrinters s).beacons = s.beacons ∧
    (startPrinters s).bars = s.bars ∧ (startPrinters s).recent = s.recent ∧
    (startPrinters s).readerErrors = s.readerErrors ∧ (startPrinters s).gates = s.gates ∧ (startPrinters s).plat = s.plat ∧
    (startPrinters s).alloc = s.alloc ∧ (startPrinters s).tables = s.tables ∧ (startPrinters s).visits = s.visits ∧
    (startPrinters s).time = s.time ∧ (startPrinters s).watch = s.watch ∧ (startPrinters s).link = s.link ∧
    (startPrinters s).settings = s.settings ∧ (startPrinters s).freeCount = s.freeCount ∧
    (startPrinters s).pending = s.pending := by
  unfold startPrinters
  (try dsimp only); (repeat' split) <;> (try simp) <;> (try simp_all)

@[simp] theorem failSwitchAtReset_frame (s : State) :
    (failSwitchAtReset s).part = s.part ∧ (failSwitchAtReset s).intakes = s.intakes ∧ (failSwitchAtReset s).sync = s.sync ∧
    (failSwitchAtReset s).chains = s.chains ∧ (failSwitchAtReset s).nextCapture = s.nextCapture ∧
    (failSwitchAtReset s).inputs = s.inputs ∧ (failSwitchAtReset s).drives = s.drives ∧
    (failSwitchAtReset s).beacons = s.beacons ∧ (failSwitchAtReset s).bars = s.bars ∧
    (failSwitchAtReset s).recent = s.recent ∧ (failSwitchAtReset s).readerErrors = s.readerErrors ∧
    (failSwitchAtReset s).gates = s.gates ∧ (failSwitchAtReset s).alloc = s.alloc ∧
    (failSwitchAtReset s).tables = s.tables ∧ (failSwitchAtReset s).visits = s.visits ∧
    (failSwitchAtReset s).tickets = s.tickets ∧ (failSwitchAtReset s).time = s.time ∧
    (failSwitchAtReset s).watch = s.watch ∧ (failSwitchAtReset s).settings = s.settings ∧
    (failSwitchAtReset s).freeCount = s.freeCount ∧ (failSwitchAtReset s).pending = s.pending := by
  unfold failSwitchAtReset
  (try dsimp only); (repeat' split) <;> (try simp) <;> (try simp_all)

@[simp] theorem restorePlatform_frame (x0 : Platform) (s : State) :
    (restorePlatform x0 s).part = s.part ∧ (restorePlatform x0 s).intakes = s.intakes ∧
    (restorePlatform x0 s).sync = s.sync ∧ (restorePlatform x0 s).chains = s.chains ∧
    (restorePlatform x0 s).nextCapture = s.nextCapture ∧ (restorePlatform x0 s).inputs = s.inputs ∧
    (restorePlatform x0 s).recent = s.recent ∧ (restorePlatform x0 s).readerErrors = s.readerErrors ∧
    (restorePlatform x0 s).gates = s.gates ∧ (restorePlatform x0 s).tables = s.tables ∧
    (restorePlatform x0 s).tickets = s.tickets ∧ (restorePlatform x0 s).time = s.time ∧
    (restorePlatform x0 s).watch = s.watch ∧ (restorePlatform x0 s).settings = s.settings ∧
    (restorePlatform x0 s).freeCount = s.freeCount ∧ (restorePlatform x0 s).pending = s.pending := by
  unfold restorePlatform
  (try dsimp only); (repeat' split) <;> (try simp) <;> (try simp_all)

@[simp] theorem freeOthers_frame (s : State) :
    (freeOthers s).part = s.part ∧ (freeOthers s).intakes = s.intakes ∧ (freeOthers s).sync = s.sync ∧
    (freeOthers s).chains = s.chains ∧ (freeOthers s).nextCapture = s.nextCapture ∧ (freeOthers s).inputs = s.inputs ∧
    (freeOthers s).drives = s.drives ∧ (freeOthers s).beacons = s.beacons ∧ (freeOthers s).bars = s.bars ∧
    (freeOthers s).recent = s.recent ∧ (freeOthers s).readerErrors = s.readerErrors ∧ (freeOthers s).gates = s.gates ∧
    (freeOthers s).alloc = s.alloc ∧ (freeOthers s).tables = s.tables ∧ (freeOthers s).visits = s.visits ∧
    (freeOthers s).tickets = s.tickets ∧ (freeOthers s).time = s.time ∧ (freeOthers s).watch = s.watch ∧
    (freeOthers s).link = s.link ∧ (freeOthers s).settings = s.settings ∧ (freeOthers s).freeCount = s.freeCount ∧
    (freeOthers s).pending = s.pending := by
  unfold freeOthers
  (try dsimp only); (repeat' split) <;> (try simp) <;> (try simp_all)

@[simp] theorem lowerIfUp_frame (x0 : Barrier) (s : State) :
    (lowerIfUp x0 s).part = s.part ∧ (lowerIfUp x0 s).intakes = s.intakes ∧ (lowerIfUp x0 s).sync = s.sync ∧
    (lowerIfUp x0 s).chains = s.chains ∧ (lowerIfUp x0 s).nextCapture = s.nextCapture ∧ (lowerIfUp x0 s).inputs = s.inputs ∧
    (lowerIfUp x0 s).beacons = s.beacons ∧ (lowerIfUp x0 s).recent = s.recent ∧
    (lowerIfUp x0 s).readerErrors = s.readerErrors ∧ (lowerIfUp x0 s).gates = s.gates ∧ (lowerIfUp x0 s).plat = s.plat ∧
    (lowerIfUp x0 s).alloc = s.alloc ∧ (lowerIfUp x0 s).tables = s.tables ∧ (lowerIfUp x0 s).visits = s.visits ∧
    (lowerIfUp x0 s).tickets = s.tickets ∧ (lowerIfUp x0 s).time = s.time ∧ (lowerIfUp x0 s).watch = s.watch ∧
    (lowerIfUp x0 s).link = s.link ∧ (lowerIfUp x0 s).settings = s.settings ∧ (lowerIfUp x0 s).freeCount = s.freeCount ∧
    (lowerIfUp x0 s).pending = s.pending := by
  unfold lowerIfUp
  (try dsimp only); (repeat' split) <;> (try simp) <;> (try simp_all)

@[simp] theorem raiseIfDown_frame (x0 : Barrier) (s : State) :
    (raiseIfDown x0 s).part = s.part ∧ (raiseIfDown x0 s).intakes = s.intakes ∧ (raiseIfDown x0 s).sync = s.sync ∧
    (raiseIfDown x0 s).chains = s.chains ∧ (raiseIfDown x0 s).nextCapture = s.nextCapture ∧
    (raiseIfDown x0 s).inputs = s.inputs ∧ (raiseIfDown x0 s).beacons = s.beacons ∧ (raiseIfDown x0 s).recent = s.recent ∧
    (raiseIfDown x0 s).readerErrors = s.readerErrors ∧ (raiseIfDown x0 s).gates = s.gates ∧
    (raiseIfDown x0 s).plat = s.plat ∧ (raiseIfDown x0 s).alloc = s.alloc ∧ (raiseIfDown x0 s).tables = s.tables ∧
    (raiseIfDown x0 s).visits = s.visits ∧ (raiseIfDown x0 s).tickets = s.tickets ∧ (raiseIfDown x0 s).time = s.time ∧
    (raiseIfDown x0 s).watch = s.watch ∧ (raiseIfDown x0 s).link = s.link ∧ (raiseIfDown x0 s).settings = s.settings ∧
    (raiseIfDown x0 s).freeCount = s.freeCount ∧ (raiseIfDown x0 s).pending = s.pending := by
  unfold raiseIfDown
  (try dsimp only); (repeat' split) <;> (try simp) <;> (try simp_all)

@[simp] theorem orderBarriers_frame (x0 : Platform) (s : State) :
    (orderBarriers x0 s).part = s.part ∧ (orderBarriers x0 s).intakes = s.intakes ∧ (orderBarriers x0 s).sync = s.sync ∧
    (orderBarriers x0 s).chains = s.chains ∧ (orderBarriers x0 s).nextCapture = s.nextCapture ∧
    (orderBarriers x0 s).inputs = s.inputs ∧ (orderBarriers x0 s).beacons = s.beacons ∧
    (orderBarriers x0 s).recent = s.recent ∧ (orderBarriers x0 s).readerErrors = s.readerErrors ∧
    (orderBarriers x0 s).gates = s.gates ∧ (orderBarriers x0 s).plat = s.plat ∧ (orderBarriers x0 s).alloc = s.alloc ∧
    (orderBarriers x0 s).tables = s.tables ∧ (orderBarriers x0 s).visits = s.visits ∧
    (orderBarriers x0 s).tickets = s.tickets ∧ (orderBarriers x0 s).time = s.time ∧ (orderBarriers x0 s).watch = s.watch ∧
    (orderBarriers x0 s).link = s.link ∧ (orderBarriers x0 s).settings = s.settings ∧
    (orderBarriers x0 s).freeCount = s.freeCount ∧ (orderBarriers x0 s).pending = s.pending := by
  unfold orderBarriers
  (try dsimp only); (repeat' split) <;> (try simp) <;> (try simp_all)

@[simp] theorem restorePlatforms_frame (s : State) :
    (restorePlatforms s).part = s.part ∧ (restorePlatforms s).intakes = s.intakes ∧ (restorePlatforms s).sync = s.sync ∧
    (restorePlatforms s).chains = s.chains ∧ (restorePlatforms s).nextCapture = s.nextCapture ∧
    (restorePlatforms s).inputs = s.inputs ∧ (restorePlatforms s).recent = s.recent ∧
    (restorePlatforms s).readerErrors = s.readerErrors ∧ (restorePlatforms s).gates = s.gates ∧
    (restorePlatforms s).tables = s.tables ∧ (restorePlatforms s).tickets = s.tickets ∧ (restorePlatforms s).time = s.time ∧
    (restorePlatforms s).watch = s.watch ∧ (restorePlatforms s).settings = s.settings ∧
    (restorePlatforms s).freeCount = s.freeCount ∧ (restorePlatforms s).pending = s.pending := by
  unfold restorePlatforms
  (try dsimp only); (repeat' split) <;> (try simp) <;> (try simp_all)

@[simp] theorem coldModeNotice_frame (s : State) :
    (coldModeNotice s).part = s.part ∧ (coldModeNotice s).intakes = s.intakes ∧ (coldModeNotice s).sync = s.sync ∧
    (coldModeNotice s).chains = s.chains ∧ (coldModeNotice s).nextCapture = s.nextCapture ∧
    (coldModeNotice s).inputs = s.inputs ∧ (coldModeNotice s).drives = s.drives ∧ (coldModeNotice s).beacons = s.beacons ∧
    (coldModeNotice s).bars = s.bars ∧ (coldModeNotice s).recent = s.recent ∧
    (coldModeNotice s).readerErrors = s.readerErrors ∧ (coldModeNotice s).gates = s.gates ∧
    (coldModeNotice s).plat = s.plat ∧ (coldModeNotice s).alloc = s.alloc ∧ (coldModeNotice s).tables = s.tables ∧
    (coldModeNotice s).visits = s.visits ∧ (coldModeNotice s).tickets = s.tickets ∧ (coldModeNotice s).time = s.time ∧
    (coldModeNotice s).watch = s.watch ∧ (coldModeNotice s).settings = s.settings ∧
    (coldModeNotice s).freeCount = s.freeCount ∧ (coldModeNotice s).pending = s.pending := by
  unfold coldModeNotice
  (try dsimp only); (repeat' split) <;> (try simp) <;> (try simp_all)

@[simp] theorem settingsLoaded_frame (s : State) :
    (settingsLoaded s).part = s.part ∧ (settingsLoaded s).intakes = s.intakes ∧ (settingsLoaded s).sync = s.sync ∧
    (settingsLoaded s).chains = s.chains ∧ (settingsLoaded s).nextCapture = s.nextCapture ∧
    (settingsLoaded s).inputs = s.inputs ∧ (settingsLoaded s).drives = s.drives ∧ (settingsLoaded s).beacons = s.beacons ∧
    (settingsLoaded s).bars = s.bars ∧ (settingsLoaded s).recent = s.recent ∧
    (settingsLoaded s).readerErrors = s.readerErrors ∧ (settingsLoaded s).gates = s.gates ∧
    (settingsLoaded s).plat = s.plat ∧ (settingsLoaded s).alloc = s.alloc ∧ (settingsLoaded s).tables = s.tables ∧
    (settingsLoaded s).visits = s.visits ∧ (settingsLoaded s).tickets = s.tickets ∧ (settingsLoaded s).time = s.time ∧
    (settingsLoaded s).watch = s.watch ∧ (settingsLoaded s).settings = s.settings ∧
    (settingsLoaded s).freeCount = s.freeCount ∧ (settingsLoaded s).pending = s.pending := by
  unfold settingsLoaded
  (try dsimp only); (repeat' split) <;> (try simp) <;> (try simp_all)

@[simp] theorem sendSigns_frame (s : State) :
    (sendSigns s).part = s.part ∧ (sendSigns s).intakes = s.intakes ∧ (sendSigns s).sync = s.sync ∧
    (sendSigns s).chains = s.chains ∧ (sendSigns s).nextCapture = s.nextCapture ∧ (sendSigns s).inputs = s.inputs ∧
    (sendSigns s).drives = s.drives ∧ (sendSigns s).beacons = s.beacons ∧ (sendSigns s).bars = s.bars ∧
    (sendSigns s).recent = s.recent ∧ (sendSigns s).readerErrors = s.readerErrors ∧ (sendSigns s).gates = s.gates ∧
    (sendSigns s).alloc = s.alloc ∧ (sendSigns s).tables = s.tables ∧ (sendSigns s).visits = s.visits ∧
    (sendSigns s).tickets = s.tickets ∧ (sendSigns s).time = s.time ∧ (sendSigns s).watch = s.watch ∧
    (sendSigns s).link = s.link ∧ (sendSigns s).settings = s.settings ∧ (sendSigns s).freeCount = s.freeCount ∧
    (sendSigns s).pending = s.pending := by
  unfold sendSigns
  (try dsimp only); (repeat' split) <;> (try simp) <;> (try simp_all)

@[simp] theorem retainedState_frame (s : State) :
    (retainedState s).part = s.part ∧ (retainedState s).intakes = s.intakes ∧ (retainedState s).sync = s.sync ∧
    (retainedState s).chains = s.chains ∧ (retainedState s).inputs = s.inputs ∧ (retainedState s).drives = s.drives ∧
    (retainedState s).beacons = s.beacons ∧ (retainedState s).bars = s.bars ∧ (retainedState s).recent = s.recent ∧
    (retainedState s).readerErrors = s.readerErrors ∧ (retainedState s).gates = s.gates ∧
    (retainedState s).watch = s.watch ∧ (retainedState s).link = s.link ∧ (retainedState s).settings = s.settings ∧
    (retainedState s).freeCount = s.freeCount ∧ (retainedState s).pending = s.pending := by
  unfold retainedState
  (try dsimp only); (repeat' split) <;> (try simp) <;> (try simp_all)

@[simp] theorem startRecords_frame (s : State) :
    (startRecords s).part = s.part ∧ (startRecords s).intakes = s.intakes ∧ (startRecords s).sync = s.sync ∧
    (startRecords s).chains = s.chains ∧ (startRecords s).nextCapture = s.nextCapture ∧ (startRecords s).inputs = s.inputs ∧
    (startRecords s).recent = s.recent ∧ (startRecords s).readerErrors = s.readerErrors ∧ (startRecords s).gates = s.gates ∧
    (startRecords s).tables = s.tables ∧ (startRecords s).tickets = s.tickets ∧ (startRecords s).time = s.time ∧
    (startRecords s).watch = s.watch ∧ (startRecords s).settings = s.settings ∧ (startRecords s).freeCount = s.freeCount ∧
    (startRecords s).pending = s.pending := by
  unfold startRecords
  (try dsimp only); (repeat' split) <;> (try simp) <;> (try simp_all)

@[simp] theorem startingEnds_frame (s : State) :
    (startingEnds s).settings = s.settings ∧ (startingEnds s).freeCount = s.freeCount ∧
    (startingEnds s).pending = s.pending := by
  unfold startingEnds
  (try dsimp only); (repeat' split) <;> (try simp) <;> (try simp_all)

@[simp] theorem frameSent_frame (x0 : Unacked) (s : State) :
    (frameSent x0 s).nextCapture = s.nextCapture ∧ (frameSent x0 s).pending = s.pending := by
  unfold frameSent
  (try dsimp only); (repeat' split) <;> (try simp) <;> (try simp_all)

end Sys2Proof.Machine
end

