-- ==== Sys2Proof/Laws/Events.lean ====
section
/-! SUPPORT. What the shared operations of an event do: notices, the transmitter, the allocator at an event's end, the placing of
a request; one lemma each, for proofs to cite in place of the definitions. -/

namespace Sys2Proof.Machine

/-- Two states with the same parts are the same. -/
theorem State.eq_of_parts {a b : State} (h1 : a.part = b.part) (h2 : a.intakes = b.intakes) (h3 : a.sync = b.sync)
    (h4 : a.chains = b.chains) (h5 : a.nextCapture = b.nextCapture) (h6 : a.inputs = b.inputs)
    (h7 : a.drives = b.drives) (h8 : a.beacons = b.beacons) (h9 : a.bars = b.bars) (h10 : a.recent = b.recent)
    (h11 : a.readerErrors = b.readerErrors) (h12 : a.gates = b.gates) (h13 : a.plat = b.plat)
    (h14 : a.alloc = b.alloc) (h15 : a.tables = b.tables) (h16 : a.visits = b.visits) (h17 : a.tickets = b.tickets)
    (h18 : a.time = b.time) (h19 : a.watch = b.watch) (h20 : a.link = b.link) (h21 : a.settings = b.settings)
    (h22 : a.freeCount = b.freeCount) (h23 : a.pending = b.pending) : a = b := by
  cases a; cases b; simp_all

/-! ## Notices (R207) and the transmitter (R206) -/

/-- A notice changes the office link alone. -/
theorem notify_only_link (c : NoticeClass) (n : String) (fs : List Field) (s : State) :
    notify c n fs s = { s with link := (notify c n fs s).link } := by
  apply State.eq_of_parts <;> simp

/-- A notice leaves the slots, the transmitter and the counters of the link as they are. -/
@[simp] theorem notify_link (c : NoticeClass) (n : String) (fs : List Field) (s : State) :
    (notify c n fs s).link.started = s.link.started ∧ (notify c n fs s).link.rate = s.link.rate ∧
    (notify c n fs s).link.inService = s.link.inService ∧ (notify c n fs s).link.waiting = s.link.waiting ∧
    (notify c n fs s).link.owed = s.link.owed ∧ (notify c n fs s).link.sending = s.link.sending ∧
    (notify c n fs s).link.discards = s.link.discards := by
  unfold notify; dsimp only; (repeat' split) <;> simp

/-- The transmitter's choice changes the office link alone. -/
theorem pump_only_link (s : State) : pump s = { s with link := (pump s).link } := by
  apply State.eq_of_parts <;> simp

/-- A transmitter that is sending goes on. -/
theorem pump_of_sending {s : State} {f : TxFrame} (h : s.link.sending = some f) : pump s = s := by
  simp [pump, h]

/-- With a reply in service an idle transmitter sends it. -/
theorem pump_of_service {s : State} {r : Service} (h : s.link.sending = none) (hr : s.link.inService = some r) :
    pump s = { s with link := { s.link with sending := some (.reply r) } } := by
  simp [pump, h, hr]

/-- The transmitter's choice leaves the reply in service in place. -/
@[simp] theorem pump_inService (s : State) : (pump s).link.inService = s.link.inService := by
  unfold pump; (repeat' split) <;> simp_all

/-- The transmitter's choice leaves the started mark, the rate, the pending slot, the classes and the discard counter. -/
@[simp] theorem pump_link (s : State) :
    (pump s).link.started = s.link.started ∧ (pump s).link.rate = s.link.rate ∧
    (pump s).link.waiting = s.link.waiting ∧ (pump s).link.classes = s.link.classes ∧
    (pump s).link.discards = s.link.discards := by
  unfold pump; (repeat' split) <;> simp

/-! ## The frame assembly (R200, R201) -/

/-- Characters before a '<' without a framing error leave nothing behind; from it on everything is kept. -/
theorem fromStart_append : ∀ {junk rest : List RxByte} {start : RxByte}, (∀ c ∈ junk, c.code ≠ 0x3C ∨ c.faulty = true) →
    start.code = 0x3C → start.faulty = false → fromStart (junk ++ start :: rest) = start :: rest
  | [], rest, start, _, hs, hg => by unfold fromStart; rw [List.nil_append, List.dropWhile_cons_of_neg]; rw [hs, hg]; decide
  | c :: cs, rest, start, hj, hs, hg => by
    have hc : (c.code != 0x3C || c.faulty) = true := by
      rw [Bool.or_eq_true, bne_iff_ne]; exact hj c (List.mem_cons_self ..)
    have ih := fromStart_append (rest := rest) (fun x hx => hj x (List.mem_cons_of_mem _ hx)) hs hg
    unfold fromStart at ih ⊢
    rw [List.cons_append, List.dropWhile_cons_of_pos (p := fun c : RxByte => c.code != 0x3C || c.faulty) hc]; exact ih

/-- Characters among which no '<' without a framing error is leave nothing behind. -/
theorem fromStart_none {chars : List RxByte} (h : ∀ c ∈ chars, c.code ≠ 0x3C ∨ c.faulty = true) : fromStart chars = [] := by
  unfold fromStart
  rw [List.dropWhile_eq_nil_iff]
  intro c hc
  rw [Bool.or_eq_true, bne_iff_ne]; exact h c hc

/-- A run of characters ends at its first CR. -/
theorem throughCr_append : ∀ {body rest : List RxByte} {cr : RxByte}, (∀ c ∈ body, c.code ≠ 0x0D) → cr.code = 0x0D →
    throughCr (body ++ cr :: rest) = some (body ++ [cr])
  | [], _, _, _, hc => by rw [List.nil_append]; unfold throughCr; rw [if_pos hc]; rfl
  | b :: bs, _, _, hb, hc => by
    rw [List.cons_append]; unfold throughCr
    rw [if_neg (hb b (List.mem_cons_self ..)), throughCr_append (fun x hx => hb x (List.mem_cons_of_mem _ hx)) hc]; rfl

/-- A run of characters without a CR does not end. -/
theorem throughCr_none : ∀ {chars : List RxByte}, (∀ c ∈ chars, c.code ≠ 0x0D) → throughCr chars = none
  | [], _ => rfl
  | c :: cs, h => by
    unfold throughCr
    rw [if_neg (h c (List.mem_cons_self ..)), throughCr_none fun x hx => h x (List.mem_cons_of_mem _ hx)]; rfl

/-- The gap timer's expiry, and characters that end no frame, change the link alone or end a frame. -/
theorem gapFires_eq (s : State) :
    gapFires s = if s.link.gap ≠ none ∧ s.running = true then frameEnds .malformed s else s := by
  unfold gapFires
  cases s.link.gap <;> simp

/-! ## The allocator at the end of an event (R128, R129) -/

/-- Being grantable depends on the part, the platforms, the barriers and the settings alone (R98). -/
theorem grantable_congr {a b : State} (h1 : a.part = b.part) (h2 : a.plat = b.plat) (h3 : a.bars = b.bars)
    (h4 : a.settings = b.settings) (p : Platform) : a.grantable p = b.grantable p := by
  have e1 : ∀ q, a.platRec q = b.platRec q := fun q => by simp [State.platRec, h2]
  have e2 : ∀ c, a.bar c = b.bar c := fun c => by simp [State.bar, h3]
  have e3 : a.running = b.running := by simp [State.running, h1]
  have e4 : a.current p = b.current p := by simp [State.current, h2]
  have e5 : a.acceptingOf p = b.acceptingOf p := by cases p <;> simp [State.acceptingOf, h2]
  have e6 : ∀ d, a.suspended d = b.suspended d := fun d => by simp [State.suspended, h4]
  have e7 : a.platSuspended p = b.platSuspended p := by
    cases p <;> simp [State.platSuspended, platformDecks, e6]
  have e8 : a.platFaulted p = b.platFaulted p := by
    simp [State.platFaulted, State.platBarriers, State.entryBar, State.exitBar, e1, e2]
  have e9 : a.atRest p = b.atRest p := by simp [State.atRest, State.entryBar, State.exitBar, e1, e2]
  simp [State.grantable, e1, e3, e4, e5, e7, e8, e9]

/-- A grant changes the allocator alone, and of the queue nothing but marks. -/
theorem grantFor_queued (p : Platform) (s : State) : (grantFor p s).queued = s.queued := by
  unfold grantFor State.queued
  (repeat' split) <;> simp only [markEntry, List.map_map]
  refine List.map_congr_left fun e _ => ?_
  simp only [Function.comp]; split <;> rfl

@[simp] theorem grantRule_queued (s : State) : (grantRule s).queued = s.queued := by
  unfold grantRule
  cases s.plat.mode <;> simp [Mode.platforms, grantFor_queued]

@[simp] theorem settleAllocator_queued (b a : State) : (settleAllocator b a).queued = a.queued := by
  unfold settleAllocator; split <;> simp

theorem grantRule_only_alloc (s : State) : grantRule s = { s with alloc := (grantRule s).alloc } := by
  apply State.eq_of_parts <;> simp

/-- The allocator at an event's end changes the allocator alone. -/
theorem settleAllocator_only_alloc (b a : State) :
    settleAllocator b a = { a with alloc := (settleAllocator b a).alloc } := by
  apply State.eq_of_parts <;> simp

/-- An event that makes no platform grantable, adds no visit to the queue and lets none gain ENTERED_SITE brings no grant. -/
theorem settleAllocator_quiet {b a : State} (hg : ∀ p, a.grantable p = true → b.grantable p = true)
    (hq : ∀ e ∈ a.alloc.queue, ∃ f ∈ b.alloc.queue, f.visit = e.visit)
    (hv : ∀ v ∈ a.visits.table, v.state = .queued → v.entered = true →
      v ∈ b.visits.table ∨ ∀ u ∈ b.visits.table, u.id = v.id → u.entered = true) : settleAllocator b a = a := by
  have h1 : becameGrantable b a = false := by
    simp only [becameGrantable, List.any_eq_false]
    intro p _ h
    simp only [Bool.and_eq_true, Bool.not_eq_true'] at h
    rw [hg p h.1] at h
    exact absurd h.2 (by simp)
  have h2 : joinedQueue b a = false := by
    simp only [joinedQueue, List.any_eq_false]
    intro e he h
    obtain ⟨f, hf, e1⟩ := hq e he
    simp only [Bool.not_eq_true', List.any_eq_false] at h
    exact h f hf (by simp [e1])
  have h3 : gainedEntered b a = false := by
    simp only [gainedEntered, List.any_eq_false]
    intro v hm h
    simp only [Bool.and_eq_true, beq_iff_eq, Bool.not_eq_true', List.any_eq_true] at h
    obtain ⟨⟨⟨hs, he⟩, hc⟩, u, hu, hid, hen⟩ := h
    rcases hv v hm hs he with hb | hb
    · rw [List.contains_iff_mem.mpr hb] at hc
      exact absurd hc (by simp)
    · rw [hb u hu hid] at hen
      exact absurd hen (by simp)
  simp [settleAllocator, h1, h2, h3]

/-- An event that leaves part, platforms, barriers, settings, call queue and visits as they are brings no grant. -/
theorem settleAllocator_same {b a : State} (h1 : a.part = b.part) (h2 : a.plat = b.plat) (h3 : a.bars = b.bars)
    (h4 : a.settings = b.settings) (h5 : a.alloc.queue = b.alloc.queue) (h6 : a.visits.table = b.visits.table) :
    settleAllocator b a = a :=
  settleAllocator_quiet (fun p h => by rwa [grantable_congr h1 h2 h3 h4 p] at h)
    (fun e he => ⟨e, h5 ▸ he, rfl⟩) (fun v hv _ _ => .inl (h6 ▸ hv))

/-- An event whose effect the allocator does not act on is the effect and the transmitter's choice. -/
theorem event_quiet {f : State → State} {s : State} (h : settleAllocator s (f s) = f s) : event f s = pump (f s) := by
  simp [event, h]

/-! ## Requests that are taken at once (R196, R203, R204) -/

theorem frameReceived_online {s : State} (h : s.watch.online = true) : frameReceived s = s.heard := by
  simp [frameReceived, State.heard, h]

/-- A request that arrives at a part that is ready: its rule acts on the state, and its reply enters service. -/
theorem request_ready {s : State} (h : s.ready) (n : ReqName) (fs : List Text) :
    requestArrives n fs s =
      pump (settleAllocator s
        { (ownerRule n fs s.heard).1 with
          link := { (ownerRule n fs s.heard).1.link with
            assembly := [], gap := none,
            inService := some ⟨(ownerRule n fs s.heard).2, isRestart n (ownerRule n fs s.heard).2⟩ } }) := by
  obtain ⟨h1, h2, h3, h4, h5⟩ := h
  have hr : s.heard.running = true := by simpa [State.running, State.heard] using h1
  have hs : s.heard.link = s.link := rfl
  simp [requestArrives, event, frameEnds, h3, frameReceived_online h2, placeFrame, hs, h4, h5, enterService, takeRequest, hr,
    closeFrame]

/-- The reply of a request that was taken at once is in service after it. -/
theorem pump_answered {s : State} (r : Reply) :
    pump { s.heard with link := { s.link with assembly := [], gap := none, inService := some ⟨r, false⟩ } } =
      s.answered r := by
  cases h : s.link.sending with
  | none => simp [pump, State.heard, State.answered, sendNext, h]
  | some f => simp [pump, State.heard, State.answered, sendNext, h]

/-- A request whose rule answers over the heard state and leaves what the allocator looks at as it is. -/
theorem request_answered {s u : State} (h : s.ready) {n : ReqName} {fs : List Text} {r : Reply}
    (ho : ownerRule n fs s.heard = (u.heard, r)) (hr : isRestart n r = false) (h1 : u.part = s.part)
    (h2 : u.plat = s.plat) (h3 : u.bars = s.bars) (h4 : u.settings = s.settings)
    (h5 : u.alloc.queue = s.alloc.queue) (h6 : u.visits.table = s.visits.table) :
    requestArrives n fs s = u.answered r := by
  rw [request_ready h, ho, hr, settleAllocator_same]
  · exact pump_answered r
  all_goals assumption

end Sys2Proof.Machine
end

