-- ==== Sys2Proof/Laws/Kept.lean ====
section
/-! SUPPORT. How a law is shown to be kept by every step: by showing that each event's effect keeps it. -/

namespace Sys2Proof.Machine

/-- A law that the effects of the events keep, each by itself. -/
structure KeptByEffects (law : State → Prop) : Prop where
  queue : ∀ s q, law s → law { s with pending := q }
  pump : ∀ s, law s → law (pump s)
  settle : ∀ b a, law a → law (settleAllocator b a)
  down : ∀ s, law s → law (countDown s)
  subMs : ∀ s, s.time.subMs < 999 → law s → law { s with time := { s.time with subMs := s.time.subMs + 1 } }
  burst : ∀ d bytes s, law s → law (burstEnds d bytes s)
  frameTimer : ∀ d s, law s → law (frameTimerFires d s)
  consume : ∀ d s, law s → law (consumeFrame d s)
  pair : ∀ s, law s → law (consumePair s)
  capture : ∀ p s, law s → law (captureFires p s)
  sync : ∀ s, law s → law (syncPulseEnds s)
  raw : ∀ i high s, law s → law (rawArrives i high s)
  debounce : ∀ i s, law s → law (debounceFires i s)
  travel : ∀ b s, law s → law (travelFires b s)
  report : ∀ chars begun s, law s → law (reportEnds chars begun s)
  abandoned : ∀ begun s, law s → law (reportAbandoned begun s)
  repeatHold : ∀ r s, law s → law (repeatHoldFires r s)
  gateHold : ∀ g s, law s → law (gateHoldFires g s)
  grant : ∀ p s, law s → law (grantArrives p s)
  call : ∀ p s, law s → law (callFires p s)
  sign : ∀ s, law s → law (signSent s)
  text : ∀ p s, law s → law (textSent p s)
  printer : ∀ p c s, law s → law (printerChar p c s)
  status : ∀ p s, law s → law (statusFires p s)
  enquiry : ∀ p s, law s → law (enquiryFires p s)
  second : ∀ s, law s → law (secondTick s)
  silence : ∀ s, law s → law (silenceFires s)
  ack : ∀ s, law s → law (transferAck s)
  timeout : ∀ s, law s → law (transferTimeoutFires s)
  frame : ∀ f s, law s → law (frameEnds f s)
  chars : ∀ cs s, law s → law (charsArrive cs s)
  gap : ∀ s, law s → law (gapFires s)
  sent : ∀ u s, law s → law (frameSent u s)
  power : ∀ k m u s, law s → law (poweredOn k m u s)
  reset : ∀ u s, law s → law (resetBySignature u s)
  link : ∀ s, law s → law (startLink s)
  starting : ∀ s, law s → law (startingEnds s)

variable {law : State → Prop}

theorem KeptByEffects.event (k : KeptByEffects law) {f : State → State} (hf : ∀ s, law s → law (f s)) (s : State)
    (h : law s) : law (event f s) :=
  k.pump _ (k.settle _ _ (hf s h))

theorem KeptByEffects.fireIf (k : KeptByEffects law) {due : State → Bool} {f : State → State}
    (hf : ∀ s, law s → law (f s)) (s : State) (h : law s) : law (fireIf due f s) := by
  unfold Machine.fireIf; split
  · exact k.event hf s h
  · exact h

/-- Each expiry of a tick keeps the law. -/
theorem KeptByEffects.tick (k : KeptByEffects law) : ∀ f ∈ tickOrder, ∀ s, law s → law (f s) := by
  intro f hf
  simp only [tickOrder, List.mem_append, List.mem_map, List.mem_cons, List.not_mem_nil, or_false] at hf
  rcases hf with ((((rfl | rfl | rfl) | ⟨i, _, rfl⟩) | ⟨b, _, rfl⟩) | ⟨r, _, rfl⟩) | rfl | rfl | rfl | rfl | rfl | rfl |
    rfl | rfl | rfl | rfl | rfl | rfl | rfl | rfl | rfl | rfl
  · exact k.fireIf k.sync
  · exact k.fireIf (k.frameTimer _)
  · exact k.fireIf (k.frameTimer _)
  · exact k.fireIf (k.debounce i)
  · exact k.fireIf (k.travel b)
  · exact k.fireIf (k.repeatHold r)
  · exact k.fireIf (k.gateHold _)
  · exact k.fireIf (k.gateHold _)
  · exact k.fireIf (k.call _)
  · exact k.fireIf (k.call _)
  · exact k.fireIf (k.call _)
  · exact k.fireIf (k.capture _)
  · exact k.fireIf (k.capture _)
  · exact k.fireIf (k.capture _)
  · exact k.fireIf (k.status _)
  · exact k.fireIf (k.status _)
  · exact k.fireIf (k.enquiry _)
  · exact k.fireIf (k.enquiry _)
  · exact k.fireIf k.gap
  · exact k.fireIf k.silence
  · exact k.fireIf k.timeout
  · intro s h
    unfold countSecond; split
    · exact k.subMs s (by assumption) h
    · exact k.event k.second s h

theorem KeptByEffects.msTick (k : KeptByEffects law) (s : State) (h : law s) : law (msTick s) := by
  unfold Machine.msTick; split
  · have hk := k.tick
    generalize tickOrder = l at hk
    have hd := k.down s h
    generalize countDown s = t at hd
    induction l generalizing t with
    | nil => exact hd
    | cons f l ih =>
      exact ih (fun g hg => hk g (List.mem_cons_of_mem _ hg)) (f t) (hk f (List.mem_cons_self ..) t hd)
  · exact h

theorem KeptByEffects.selfStep (k : KeptByEffects law) (s : State) (h : law s) : law (selfStep s) := by
  unfold Machine.selfStep
  (repeat' split)
  · exact k.event (k.consume _) s h
  · exact k.event (k.consume _) s h
  · exact k.event k.pair s h
  · exact k.event (k.grant _) s h
  · exact k.msTick s h

/-- Every command keeps the law. -/
theorem KeptByEffects.exec (k : KeptByEffects law) (c : Instr) (s t : State) (h : law s) (ht : exec c s = .next t) :
    law t := by
  have hr : ∀ n fs, law (requestArrives n fs s) := fun n fs => k.event (k.frame _) s h
  cases c
  case digitiserBurstEnd d bytes => cases ht; exact k.event (k.burst d bytes) s h
  case frameTimerExpiry d => cases ht; exact k.event (k.frameTimer d) s h
  case consumeFrame d => cases ht; exact k.event (k.consume d) s h
  case consumePair => cases ht; exact k.event k.pair s h
  case captureTimerExpiry p => cases ht; exact k.event (k.capture p) s h
  case inputRawChange i high => cases ht; exact k.event (k.raw i high) s h
  case debounceExpiry i => cases ht; exact k.event (k.debounce i) s h
  case travelTimerExpiry b => cases ht; exact k.event (k.travel b) s h
  case readerReportEnd chars begun => cases ht; exact k.event (k.report chars begun) s h
  case repeatHoldExpiry r => cases ht; exact k.event (k.repeatHold r) s h
  case gateHoldExpiry g => cases ht; exact k.event (k.gateHold g) s h
  case grant p => cases ht; exact k.event (k.grant p) s h
  case callTimerExpiry p => cases ht; exact k.event (k.call p) s h
  case signMessageSent => cases ht; exact k.event k.sign s h
  case ticketTextSent p => cases ht; exact k.event (k.text p) s h
  case printerStatusChar p c => cases ht; exact k.event (k.printer p c) s h
  case statusTimerExpiry p => cases ht; exact k.event (k.status p) s h
  case enquiryTimerExpiry p => cases ht; exact k.event (k.enquiry p) s h
  case oneSecondTick => cases ht; exact k.event k.second s h
  case silenceTimerExpiry => cases ht; exact k.event k.silence s h
  case officeFrameEnd chars => cases ht; exact k.event (k.chars chars) s h
  case frameGapTimeout => cases ht; exact k.event k.gap s h
  case officeFrameSent u => cases ht; exact k.event (k.sent u) s h
  case settingsTransferAck => cases ht; exact k.event k.ack s h
  case settingsTransferTimeout => cases ht; exact k.event k.timeout s h
  case powerOn b m u => cases ht; exact k.event (k.power b m u) s h
  case resetInput u => cases ht; exact k.event (k.reset u) s h
  case officeLinkStart => cases ht; exact k.event k.link s h
  case startingEnd => cases ht; exact k.event k.starting s h
  case readerReportAbandoned report =>
    obtain ⟨cause, begun⟩ := report
    cases cause <;> cases ht <;> exact k.event (k.abandoned begun) s h
  case syncPulseEnd => cases ht; exact k.event k.sync s h
  all_goals cases ht; exact hr _ _

/-- A law that the effects keep is kept by every step. -/
theorem KeptByEffects.step (k : KeptByEffects law) : keptByStep law := by
  intro s t h ht
  unfold Machine.step at ht
  split at ht
  · exact k.exec _ _ _ (k.queue s _ h) ht
  · cases ht; exact k.selfStep s h

/-- For a law that says nothing of the office link, the frames come down to the owners' rules and the resets. -/
theorem frame_kept (hl : ∀ s l, law s → law { s with link := l }) (hr : ∀ s, law s → law (frameReceived s))
    (ho : ∀ n fs s, law s → law (ownerRule n fs s).1) (f : RxFrame) (s : State) (h : law s) : law (frameEnds f s) := by
  have ht : ∀ n fs s, law s → law (takeRequest n fs s).1 := by
    intro n fs s h; unfold takeRequest; split
    · exact ho n fs s h
    · exact h
  have he : ∀ f s, law s → law (enterService f s) := by
    intro f s h; unfold enterService
    split
    · exact hl _ _ h
    · exact hl _ _ h
    · exact hl _ _ (ht _ _ _ h)
  have hp : ∀ f s, law s → law (placeFrame f s) := by
    intro f s h; unfold placeFrame; dsimp only
    (repeat' split)
    · exact he _ _ h
    all_goals exact hl _ _ h
  unfold frameEnds
  split
  · refine hl _ _ ?_
    split
    · exact hp _ _ (hr _ h)
    · exact hp _ _ h
  · exact h

/-- For such a law, what the characters of a frame and the gap timer do comes down to the frame's end. -/
theorem chars_kept (hl : ∀ s l, law s → law { s with link := l }) (hf : ∀ f s, law s → law (frameEnds f s))
    (cs : List RxByte) (s : State) (h : law s) : law (charsArrive cs s) := by
  unfold charsArrive; dsimp only
  (repeat' split)
  · exact hf _ _ h
  · exact h
  · exact hl _ _ h
  · exact h

theorem gap_kept (hf : ∀ f s, law s → law (frameEnds f s)) (s : State) (h : law s) : law (gapFires s) := by
  unfold gapFires
  (repeat' split)
  · exact hf _ _ h
  · exact h
  · exact h

theorem sent_kept (hl : ∀ s l, law s → law { s with link := l }) (ho : ∀ n fs s, law s → law (ownerRule n fs s).1)
    (hz : ∀ u s, law s → law (resetBySignature u s)) (u : Unacked) (s : State) (h : law s) : law (frameSent u s) := by
  have he : ∀ f s, law s → law (enterService f s) := by
    intro f s h; unfold enterService
    split
    · exact hl _ _ h
    · exact hl _ _ h
    · refine hl _ _ ?_
      unfold takeRequest; split
      · exact ho _ _ _ h
      · exact h
  unfold frameSent
  split
  · exact h
  · split
    · exact hz _ _ h
    · unfold replySent; dsimp only; split
      · exact he _ _ (hl _ _ h)
      · exact hl _ _ h
  · exact hl _ _ h
  · exact hl _ _ h

end Sys2Proof.Machine
end

