-- ==== Sys2Proof/Laws/Memory.lean ====
section
/-! SUPPORT. The settings memory: reads after writes, and the canonical form, which every memory operation keeps. -/

namespace Sys2Proof.Machine

/-- Below the lowest listed address every byte is the unlisted one. -/
theorem memRead_below : ∀ (m : List Host.Cell) (lo a : Nat), memWfFrom lo m = true → a < lo → memRead m a = memDefault
  | [], _, _, _, _ => rfl
  | (k, v) :: rest, lo, a, h, ha => by
    simp only [memWfFrom, Bool.and_eq_true, decide_eq_true_eq] at h
    obtain ⟨⟨h1, _⟩, h3⟩ := h
    have : k ≠ a := by omega
    simp [memRead, this, memRead_below rest (k + 1) a h3 (by omega)]

/-- A lower bound of a canonical list may be lowered. -/
theorem memWfFrom_mono : ∀ (m : List Host.Cell) (lo lo' : Nat), memWfFrom lo m = true → lo' ≤ lo → memWfFrom lo' m = true
  | [], _, _, _, _ => rfl
  | (k, v) :: rest, lo, lo', h, hl => by
    simp only [memWfFrom, Bool.and_eq_true, decide_eq_true_eq] at h ⊢
    exact ⟨⟨by omega, h.1.2⟩, h.2⟩

/-- A write keeps the canonical form from a lower bound on. -/
theorem memWrite_wfFrom : ∀ (m : List Host.Cell) (lo a : Nat) (v : Byte), memWfFrom lo m = true → lo ≤ a →
    memWfFrom lo (memWrite m a v) = true
  | [], lo, a, v, _, ha => by
    unfold memWrite; split
    · rfl
    · rename_i hv; simp [memWfFrom, ha, hv]
  | (k, w) :: rest, lo, a, v, h, ha => by
    simp only [memWfFrom, Bool.and_eq_true, decide_eq_true_eq] at h
    obtain ⟨⟨h1, h2⟩, h3⟩ := h
    unfold memWrite
    split
    · rename_i hlt
      split
      · simp [memWfFrom, h1, h3]; simpa using h2
      · rename_i hv
        simp only [memWfFrom, Bool.and_eq_true, decide_eq_true_eq]
        exact ⟨⟨ha, by simpa using hv⟩, ⟨by omega, h2⟩, h3⟩
    · split
      · rename_i _ he
        split
        · exact memWfFrom_mono rest _ _ h3 (by omega)
        · rename_i hv
          simp only [memWfFrom, Bool.and_eq_true, decide_eq_true_eq]
          exact ⟨⟨ha, by simpa using hv⟩, he ▸ h3⟩
      · rename_i hlt hne
        simp only [memWfFrom, Bool.and_eq_true, decide_eq_true_eq]
        exact ⟨⟨h1, h2⟩, memWrite_wfFrom rest (k + 1) a v h3 (by omega)⟩

/-- A write keeps the canonical form. -/
theorem memWrite_wf {m : List Host.Cell} (h : memWf m = true) (a : Nat) (v : Byte) : memWf (memWrite m a v) = true :=
  memWrite_wfFrom m 0 a v h (Nat.zero_le a)

/-- A write of bytes keeps the canonical form. -/
theorem memWriteAll_wf : ∀ (vs : List Byte) (m : List Host.Cell) (a : Nat), memWf m = true → memWf (memWriteAll m a vs) = true
  | [], _, _, h => h
  | v :: vs, m, a, h => memWriteAll_wf vs (memWrite m a v) (a + 1) (memWrite_wf h a v)

/-- The written byte is read back. -/
theorem memRead_memWrite_same : ∀ (m : List Host.Cell) (lo a : Nat) (v : Byte), memWfFrom lo m = true →
    memRead (memWrite m a v) a = v
  | [], _, a, v, _ => by
    unfold memWrite; split
    · rename_i h; simp [memRead, h]
    · simp [memRead]
  | (k, w) :: rest, lo, a, v, h => by
    simp only [memWfFrom, Bool.and_eq_true, decide_eq_true_eq] at h
    obtain ⟨⟨h1, _⟩, h3⟩ := h
    unfold memWrite
    split
    · rename_i hlt
      split
      · rename_i hv
        have : k ≠ a := by omega
        simp [memRead, this, memRead_below rest (k + 1) a h3 (by omega), hv]
      · simp [memRead]
    · split
      · rename_i he
        split
        · rename_i hv
          rw [memRead_below rest (k + 1) a h3 (by omega), hv]
        · simp [memRead]
      · rename_i hlt hne
        have : k ≠ a := fun e => hne e.symm
        simp [memRead, this, memRead_memWrite_same rest (k + 1) a v h3]

/-- Every other byte is as before. -/
theorem memRead_memWrite_other : ∀ (m : List Host.Cell) (lo a c : Nat) (v : Byte), memWfFrom lo m = true → c ≠ a →
    memRead (memWrite m a v) c = memRead m c
  | [], _, a, c, v, _, hc => by
    unfold memWrite; split
    · rfl
    · simp [memRead, Ne.symm hc]
  | (k, w) :: rest, lo, a, c, v, h, hc => by
    simp only [memWfFrom, Bool.and_eq_true, decide_eq_true_eq] at h
    obtain ⟨⟨h1, _⟩, h3⟩ := h
    unfold memWrite
    split
    · split
      · rfl
      · simp [memRead, Ne.symm hc]
    · split
      · rename_i he
        split
        · by_cases hk : k = c
          · exact absurd (hk.symm.trans he.symm) hc
          · simp [memRead, hk]
        · subst he; simp [memRead, Ne.symm hc]
      · simp only [memRead]
        rw [memRead_memWrite_other rest (k + 1) a c v h3 hc]

/-- Outside the bytes written every byte is as before. -/
theorem memRead_memWriteAll_outside : ∀ (vs : List Byte) (m : List Host.Cell) (a c : Nat), memWf m = true →
    c < a ∨ a + vs.length ≤ c → memRead (memWriteAll m a vs) c = memRead m c
  | [], _, _, _, _, _ => rfl
  | v :: vs, m, a, c, h, hc => by
    have h2 : c < a + 1 ∨ a + 1 + vs.length ≤ c := by simp only [List.length_cons] at hc; omega
    have h3 : c ≠ a := by simp only [List.length_cons] at hc; omega
    rw [memWriteAll, memRead_memWriteAll_outside vs _ _ _ (memWrite_wf h a v) h2, memRead_memWrite_other m 0 a c v h h3]

/-- The memory after reset is in canonical form. -/
theorem reset_memSound : State.reset.memSound := rfl

end Sys2Proof.Machine
end

