-- ==== Sys2Proof/WellFormed.lean ====
section
/-! DEFINITION. Which commands are well formed: operands that the lines of the part can carry. -/

namespace Sys2Proof

/-- A character a frame's field may hold (R202, R204): printable, and neither ',' nor '*'. -/
def fieldChar (c : Byte) : Bool :=
  0x20 ≤ c.toNat && c.toNat ≤ 0x7E && c != 0x2C && c != 0x2A

/-- The length of the body NAME,field,…: the name, and a comma before each field (R204). -/
def bodyLength (nameLength : Nat) (fields : List Text) : Nat :=
  fields.foldl (fun n f => n + 1 + f.length) nameLength

/-- Fields that a frame with good framing can carry behind a name of the given length (R202). -/
def fieldsWf (nameLength : Nat) (fields : List Text) : Bool :=
  fields.all (fun f => f.all fieldChar) && bodyLength nameLength fields ≤ 240

/-- A run of characters that starts with the given character, ends with a CR and holds no CR before it. A framing error keeps
neither from starting or ending the run. DESIGN CHOICE (log 42). -/
def endsAtCr (start : Byte) (chars : List RxByte) : Bool :=
  match chars with
  | [] => false
  | c :: rest =>
    c.code == start && (rest.getLast?.any fun e => e.code == 0x0D) && rest.dropLast.all fun e => e.code != 0x0D

/-- The sections a load can find unacknowledged are 1 to 7 (R211). -/
def Unacked.wf (u : Unacked) : Bool := u.sections.all fun n => 1 ≤ n && n ≤ 7

/-- Well-formed commands. A burst holds at least one byte (R1). A report starts with '#', ends at its CR, and holds no '#'
and no CR between (R74). Office characters hold a CR at their end or nowhere (R201). -/
def Instr.wf : Instr → Bool
  | .digitiserBurstEnd _ bytes => !bytes.isEmpty
  | .frameTimerExpiry _ => true
  | .consumeFrame _ => true
  | .consumePair => true
  | .diag fs => fieldsWf 4 fs
  | .weight fs => fieldsWf 6 fs
  | .zero fs => fieldsWf 4 fs
  | .captureTimerExpiry _ => true
  | .inputRawChange _ _ => true
  | .debounceExpiry _ => true
  | .inputOverride fs => fieldsWf 14 fs
  | .inputs fs => fieldsWf 6 fs
  | .travelTimerExpiry _ => true
  | .barrierReset fs => fieldsWf 13 fs
  | .readerReportEnd chars _ => endsAtCr 0x23 chars && chars.tail.all (fun c => c.code != 0x23) && chars.length ≤ 20
  | .repeatHoldExpiry _ => true
  | .gateHoldExpiry _ => true
  | .admitVehicle fs => fieldsWf 5 fs
  | .refuse fs => fieldsWf 6 fs
  | .gateOpen fs => fieldsWf 9 fs
  | .grant _ => true
  | .callTimerExpiry _ => true
  | .platformRetry fs => fieldsWf 14 fs
  | .platformRelease fs => fieldsWf 16 fs
  | .platformAbort fs => fieldsWf 14 fs
  | .platformAccept fs => fieldsWf 15 fs
  | .platformMode fs => fieldsWf 13 fs
  | .platform fs => fieldsWf 8 fs
  | .signMessageSent => true
  | .call fs => fieldsWf 4 fs
  | .queue fs => fieldsWf 5 fs
  | .vehicleGet fs => fieldsWf 11 fs
  | .vehiclePut fs => fieldsWf 11 fs
  | .vehicleDelete fs => fieldsWf 14 fs
  | .accountGet fs => fieldsWf 11 fs
  | .accountPut fs => fieldsWf 11 fs
  | .accountStatus fs => fieldsWf 14 fs
  | .accountDelete fs => fieldsWf 14 fs
  | .visitResolve fs => fieldsWf 13 fs
  | .cancel fs => fieldsWf 6 fs
  | .holdVisit fs => fieldsWf 10 fs
  | .requeue fs => fieldsWf 7 fs
  | .visit fs => fieldsWf 5 fs
  | .visitList fs => fieldsWf 10 fs
  | .journalRead fs => fieldsWf 12 fs
  | .journalRelease fs => fieldsWf 15 fs
  | .ticketTextSent _ => true
  | .printerStatusChar _ _ => true
  | .statusTimerExpiry _ => true
  | .enquiryTimerExpiry _ => true
  | .printSuppress fs => fieldsWf 14 fs
  | .reprint fs => fieldsWf 7 fs
  | .oneSecondTick => true
  | .timeSet fs => fieldsWf 8 fs
  | .linkWatch fs => fieldsWf 10 fs
  | .silenceTimerExpiry => true
  | .officeFrameEnd chars => !chars.isEmpty && chars.dropLast.all (fun c => c.code != 0x0D)
  | .frameGapTimeout => true
  | .officeFrameSent u => u.wf
  | .noticeEnable fs => fieldsWf 13 fs
  | .status fs => fieldsWf 6 fs
  | .settingsRead fs => fieldsWf 13 fs
  | .settingsWrite fs => fieldsWf 14 fs
  | .settingsTransferAck => true
  | .settingsTransferTimeout => true
  | .powerOn _ _ u => u.wf
  | .resetInput u => u.wf
  | .restart fs => fieldsWf 7 fs
  | .officeLinkStart => true
  | .startingEnd => true
  | .readerReportAbandoned _ => true
  | .syncPulseEnd => true

end Sys2Proof
end

