-- ==== Sys2Proof/Laws/PerInstr.lean ====
section
/-! SUPPORT. A law of the commands as syntax, one lemma a constructor. -/

namespace Sys2Proof

/-- The text fields a command carries: those of a host request. -/
def Instr.texts : Instr → List Text
  | .digitiserBurstEnd _ _ => []
  | .frameTimerExpiry _ => []
  | .consumeFrame _ => []
  | .consumePair => []
  | .diag fs => fs
  | .weight fs => fs
  | .zero fs => fs
  | .captureTimerExpiry _ => []
  | .inputRawChange _ _ => []
  | .debounceExpiry _ => []
  | .inputOverride fs => fs
  | .inputs fs => fs
  | .travelTimerExpiry _ => []
  | .barrierReset fs => fs
  | .readerReportEnd _ _ => []
  | .repeatHoldExpiry _ => []
  | .gateHoldExpiry _ => []
  | .admitVehicle fs => fs
  | .refuse fs => fs
  | .gateOpen fs => fs
  | .grant _ => []
  | .callTimerExpiry _ => []
  | .platformRetry fs => fs
  | .platformRelease fs => fs
  | .platformAbort fs => fs
  | .platformAccept fs => fs
  | .platformMode fs => fs
  | .platform fs => fs
  | .signMessageSent => []
  | .call fs => fs
  | .queue fs => fs
  | .vehicleGet fs => fs
  | .vehiclePut fs => fs
  | .vehicleDelete fs => fs
  | .accountGet fs => fs
  | .accountPut fs => fs
  | .accountStatus fs => fs
  | .accountDelete fs => fs
  | .visitResolve fs => fs
  | .cancel fs => fs
  | .holdVisit fs => fs
  | .requeue fs => fs
  | .visit fs => fs
  | .visitList fs => fs
  | .journalRead fs => fs
  | .journalRelease fs => fs
  | .ticketTextSent _ => []
  | .printerStatusChar _ _ => []
  | .statusTimerExpiry _ => []
  | .enquiryTimerExpiry _ => []
  | .printSuppress fs => fs
  | .reprint fs => fs
  | .oneSecondTick => []
  | .timeSet fs => fs
  | .linkWatch fs => fs
  | .silenceTimerExpiry => []
  | .officeFrameEnd _ => []
  | .frameGapTimeout => []
  | .officeFrameSent _ => []
  | .noticeEnable fs => fs
  | .status fs => fs
  | .settingsRead fs => fs
  | .settingsWrite fs => fs
  | .settingsTransferAck => []
  | .settingsTransferTimeout => []
  | .powerOn _ _ _ => []
  | .resetInput _ => []
  | .restart fs => fs
  | .officeLinkStart => []
  | .startingEnd => []
  | .readerReportAbandoned _ => []
  | .syncPulseEnd => []

theorem bodyLength_ge (n : Nat) (fs : List Text) : n ≤ bodyLength n fs := by
  induction fs generalizing n with
  | nil => exact Nat.le_refl n
  | cons f fs ih => exact Nat.le_trans (by omega : n ≤ n + 1 + f.length) (ih _)

theorem bodyLength_field (n : Nat) (fs : List Text) (t : Text) (h : t ∈ fs) : t.length < bodyLength n fs := by
  induction fs generalizing n with
  | nil => cases h
  | cons f fs ih =>
    rcases List.mem_cons.mp h with rfl | h
    · exact Nat.lt_of_lt_of_le (by omega : t.length < n + 1 + t.length) (bodyLength_ge _ fs)
    · exact ih _ h

/-- Fields that fit a frame hold field characters alone, and each is shorter than a body (R202). -/
theorem fieldsWf_field (n : Nat) (fs : List Text) (h : fieldsWf n fs = true) (t : Text) (ht : t ∈ fs) :
    t.length < 240 ∧ ∀ c ∈ t, fieldChar c = true := by
  simp only [fieldsWf, Bool.and_eq_true, List.all_eq_true, decide_eq_true_eq] at h
  exact ⟨Nat.lt_of_lt_of_le (bodyLength_field n fs t ht) h.2, fun c hc => h.1 t ht c hc⟩

namespace Laws.Carried

/-- Every text a well-formed command carries could stand in a request frame (R202, R204). -/
def Statement (i : Instr) : Prop :=
  i.wf = true → ∀ t ∈ i.texts, t.length < 240 ∧ ∀ c ∈ t, fieldChar c = true

theorem digitiserBurstEnd (d : Deck) (bytes : List RxByte) : Statement (.digitiserBurstEnd d bytes) := fun _ _ h => nomatch h
theorem frameTimerExpiry (d : Deck) : Statement (.frameTimerExpiry d) := fun _ _ h => nomatch h
theorem consumeFrame (d : Deck) : Statement (.consumeFrame d) := fun _ _ h => nomatch h
theorem consumePair : Statement .consumePair := fun _ _ h => nomatch h
theorem diag (fields : List Text) : Statement (.diag fields) := fieldsWf_field _ fields
theorem weight (fields : List Text) : Statement (.weight fields) := fieldsWf_field _ fields
theorem zero (fields : List Text) : Statement (.zero fields) := fieldsWf_field _ fields
theorem captureTimerExpiry (p : Platform) : Statement (.captureTimerExpiry p) := fun _ _ h => nomatch h
theorem inputRawChange (i : InputId) (high : Bool) : Statement (.inputRawChange i high) := fun _ _ h => nomatch h
theorem debounceExpiry (i : InputId) : Statement (.debounceExpiry i) := fun _ _ h => nomatch h
theorem inputOverride (fields : List Text) : Statement (.inputOverride fields) := fieldsWf_field _ fields
theorem inputs (fields : List Text) : Statement (.inputs fields) := fieldsWf_field _ fields
theorem travelTimerExpiry (b : Barrier) : Statement (.travelTimerExpiry b) := fun _ _ h => nomatch h
theorem barrierReset (fields : List Text) : Statement (.barrierReset fields) := fieldsWf_field _ fields
theorem readerReportEnd (chars : List RxByte) (begunStarting : Bool) : Statement (.readerReportEnd chars begunStarting) := fun _ _ h => nomatch h
theorem repeatHoldExpiry (r : Reader) : Statement (.repeatHoldExpiry r) := fun _ _ h => nomatch h
theorem gateHoldExpiry (g : Gate) : Statement (.gateHoldExpiry g) := fun _ _ h => nomatch h
theorem admitVehicle (fields : List Text) : Statement (.admitVehicle fields) := fieldsWf_field _ fields
theorem refuse (fields : List Text) : Statement (.refuse fields) := fieldsWf_field _ fields
theorem gateOpen (fields : List Text) : Statement (.gateOpen fields) := fieldsWf_field _ fields
theorem grant (p : Platform) : Statement (.grant p) := fun _ _ h => nomatch h
theorem callTimerExpiry (p : Platform) : Statement (.callTimerExpiry p) := fun _ _ h => nomatch h
theorem platformRetry (fields : List Text) : Statement (.platformRetry fields) := fieldsWf_field _ fields
theorem platformRelease (fields : List Text) : Statement (.platformRelease fields) := fieldsWf_field _ fields
theorem platformAbort (fields : List Text) : Statement (.platformAbort fields) := fieldsWf_field _ fields
theorem platformAccept (fields : List Text) : Statement (.platformAccept fields) := fieldsWf_field _ fields
theorem platformMode (fields : List Text) : Statement (.platformMode fields) := fieldsWf_field _ fields
theorem platform (fields : List Text) : Statement (.platform fields) := fieldsWf_field _ fields
theorem signMessageSent : Statement .signMessageSent := fun _ _ h => nomatch h
theorem call (fields : List Text) : Statement (.call fields) := fieldsWf_field _ fields
theorem queue (fields : List Text) : Statement (.queue fields) := fieldsWf_field _ fields
theorem vehicleGet (fields : List Text) : Statement (.vehicleGet fields) := fieldsWf_field _ fields
theorem vehiclePut (fields : List Text) : Statement (.vehiclePut fields) := fieldsWf_field _ fields
theorem vehicleDelete (fields : List Text) : Statement (.vehicleDelete fields) := fieldsWf_field _ fields
theorem accountGet (fields : List Text) : Statement (.accountGet fields) := fieldsWf_field _ fields
theorem accountPut (fields : List Text) : Statement (.accountPut fields) := fieldsWf_field _ fields
theorem accountStatus (fields : List Text) : Statement (.accountStatus fields) := fieldsWf_field _ fields
theorem accountDelete (fields : List Text) : Statement (.accountDelete fields) := fieldsWf_field _ fields
theorem visitResolve (fields : List Text) : Statement (.visitResolve fields) := fieldsWf_field _ fields
theorem cancel (fields : List Text) : Statement (.cancel fields) := fieldsWf_field _ fields
theorem holdVisit (fields : List Text) : Statement (.holdVisit fields) := fieldsWf_field _ fields
theorem requeue (fields : List Text) : Statement (.requeue fields) := fieldsWf_field _ fields
theorem visit (fields : List Text) : Statement (.visit fields) := fieldsWf_field _ fields
theorem visitList (fields : List Text) : Statement (.visitList fields) := fieldsWf_field _ fields
theorem journalRead (fields : List Text) : Statement (.journalRead fields) := fieldsWf_field _ fields
theorem journalRelease (fields : List Text) : Statement (.journalRelease fields) := fieldsWf_field _ fields
theorem ticketTextSent (p : Printer) : Statement (.ticketTextSent p) := fun _ _ h => nomatch h
theorem printerStatusChar (p : Printer) (c : Byte) : Statement (.printerStatusChar p c) := fun _ _ h => nomatch h
theorem statusTimerExpiry (p : Printer) : Statement (.statusTimerExpiry p) := fun _ _ h => nomatch h
theorem enquiryTimerExpiry (p : Printer) : Statement (.enquiryTimerExpiry p) := fun _ _ h => nomatch h
theorem printSuppress (fields : List Text) : Statement (.printSuppress fields) := fieldsWf_field _ fields
theorem reprint (fields : List Text) : Statement (.reprint fields) := fieldsWf_field _ fields
theorem oneSecondTick : Statement .oneSecondTick := fun _ _ h => nomatch h
theorem timeSet (fields : List Text) : Statement (.timeSet fields) := fieldsWf_field _ fields
theorem linkWatch (fields : List Text) : Statement (.linkWatch fields) := fieldsWf_field _ fields
theorem silenceTimerExpiry : Statement .silenceTimerExpiry := fun _ _ h => nomatch h
theorem officeFrameEnd (chars : List RxByte) : Statement (.officeFrameEnd chars) := fun _ _ h => nomatch h
theorem frameGapTimeout : Statement .frameGapTimeout := fun _ _ h => nomatch h
theorem officeFrameSent (u : Unacked) : Statement (.officeFrameSent u) := fun _ _ h => nomatch h
theorem noticeEnable (fields : List Text) : Statement (.noticeEnable fields) := fieldsWf_field _ fields
theorem status (fields : List Text) : Statement (.status fields) := fieldsWf_field _ fields
theorem settingsRead (fields : List Text) : Statement (.settingsRead fields) := fieldsWf_field _ fields
theorem settingsWrite (fields : List Text) : Statement (.settingsWrite fields) := fieldsWf_field _ fields
theorem settingsTransferAck : Statement .settingsTransferAck := fun _ _ h => nomatch h
theorem settingsTransferTimeout : Statement .settingsTransferTimeout := fun _ _ h => nomatch h
theorem powerOn (bkok : Bool) (kept : Bool) (u : Unacked) : Statement (.powerOn bkok kept u) := fun _ _ h => nomatch h
theorem resetInput (u : Unacked) : Statement (.resetInput u) := fun _ _ h => nomatch h
theorem restart (fields : List Text) : Statement (.restart fields) := fieldsWf_field _ fields
theorem officeLinkStart : Statement .officeLinkStart := fun _ _ h => nomatch h
theorem startingEnd : Statement .startingEnd := fun _ _ h => nomatch h
theorem readerReportAbandoned (cause : AbandonedReport) : Statement (.readerReportAbandoned cause) := fun _ _ h => nomatch h
theorem syncPulseEnd : Statement .syncPulseEnd := fun _ _ h => nomatch h

end Laws.Carried

end Sys2Proof
end

