-- ==== Sys2Proof/Tests/Slice0.lean ====
section
/-! SUPPORT. Tests: ill-formed commands are refused, the worked examples of the manual, and for each statement that has
hypotheses a state and operands that meet them. -/

namespace Sys2Proof.Tests

open Sys2Proof.Machine

/-! ## Helpers -/

/-- Characters that arrive without a framing error. -/
def rx (t : Text) : List RxByte := t.map fun c => ⟨c, false⟩

/-- The state after a command. -/
def after (c : Instr) (s : State) : State := match exec c s with
  | .next t => t
  | .fault _ => s
  | .refused _ => s

def noUnacked : Unacked := { header := false, sections := [] }

def starting : State := { State.reset with part := { State.reset.part with phase := .starting } }

def withBar (b : Barrier) (st : BarState) (s : State) : State :=
  { s with bars := s.bars.set b { s.bars.get b with state := st, timer := some 6000 } }

def withInput (i : InputId) (high deb : Bool) (debounce : Timer) (s : State) : State :=
  { s with inputs := s.inputs.setInput i { high := high, deb := deb, override := .none, debounce := debounce } }

def withPlat (p : Platform) (f : PlatRec → PlatRec) (s : State) : State :=
  { s with plat := { s.plat with recs := s.plat.recs.set p (f (s.plat.recs.get p)) } }

def withVisit (v : Visit) (s : State) : State := { s with visits := { table := [v], nextId := 2 } }

def withLink (f : OfficeLink → OfficeLink) (s : State) : State := { s with link := f s.link }

def withPrinter (p : Printer) (f : PrinterRec → PrinterRec) (s : State) : State :=
  { s with tickets := { s.tickets with printers := s.tickets.printers.set p (f (s.tickets.printers.get p)) } }

def withGate (g : Gate) (f : GateRec → GateRec) (s : State) : State := { s with gates := s.gates.set g (f (s.gates.get g)) }

/-- A visit of a vehicle on its first leg. -/
def visit1 : Visit :=
  { id := 1, tag := ascii "4C07A19", vehicle := none, registration := ascii "KT92WMR", account := 0, cls := 3,
    length := .standard, direction := .inbound, pass := .two, estimate := 9000, state := .queued, leg := .first,
    first := none, second := none, tare := none, net := none, holdReason := none, noShows := 0, entered := true,
    journalled := false, voided := false, zeroNet := false, tareRefreshed := false, ticket := none, admDay := 0,
    admSecond := 0, admUnset := true }

def vehicle1 : Vehicle :=
  { tag := ascii "4C07A19", registration := ascii "KT92WMR", account := 0, cls := 3, length := .standard,
    direction := .inbound, estimate := 9000, tare := none, validity := 90, blocked := false, refreshTare := true }

def entry1 : JournalEntry :=
  { ticket := 1, kind := .transaction, visit := 1, tag := ascii "4C07A19", registration := ascii "KT92WMR", account := 0,
    direction := .inbound, pass := .two, first := none, second := none, tare := none, net := some 7140, zeroNet := false,
    tareRefreshed := false, unset := true, calCounter := 0, day := 0, secondOfDay := 0 }

def ticket1 : Ticket := { content := entry1, accountName := ascii "CASH", copy := false, reprint := false }

def queuedOnce (s : State) : State := { s with alloc := { s.alloc with queue := [{ visit := 1, mark := none }] } }

/-! ## Ill-formed commands are refused: one for each check -/

theorem test_wf_empty_burst : Instr.wf (.digitiserBurstEnd .a []) = false := by decide
theorem test_wf_field_comma : Instr.wf (.weight [ascii "A,B"]) = false := by decide
theorem test_wf_field_star : Instr.wf (.zero [ascii "A*"]) = false := by decide
theorem test_wf_field_control : Instr.wf (.zero [[0x1F]]) = false := by decide
set_option maxRecDepth 4000 in
theorem test_wf_body_too_long : Instr.wf (.diag [List.replicate 236 0x41]) = false := by decide
set_option maxRecDepth 4000 in
theorem test_wf_body_longest : Instr.wf (.diag [List.replicate 235 0x41]) = true := by decide
theorem test_wf_report_start : Instr.wf (.readerReportEnd (rx (ascii "1,AB" ++ [0x0D])) false) = false := by decide
theorem test_wf_report_hash_inside : Instr.wf (.readerReportEnd (rx (ascii "#1,#" ++ [0x0D])) false) = false := by decide
theorem test_wf_report_without_cr : Instr.wf (.readerReportEnd (rx (ascii "#1,AB")) false) = false := by decide
theorem test_wf_report_cr_inside : Instr.wf (.readerReportEnd (rx (ascii "#1," ++ [0x0D, 0x0D])) false) = false := by decide
theorem test_wf_report_too_long :
    Instr.wf (.readerReportEnd (rx (ascii "#1,ABCDEFGHIJKLMNOPQ" ++ [0x0D])) false) = false := by decide
theorem test_wf_no_characters : Instr.wf (.officeFrameEnd []) = false := by decide
theorem test_wf_characters_past_cr : Instr.wf (.officeFrameEnd (rx (ascii "<STATUS*E4" ++ [0x0D, 0x3C]))) = false := by decide
theorem test_wf_section_number : Instr.wf (.resetInput { header := false, sections := [8] }) = false := by decide
theorem test_wf_good_commands :
    Instr.wf (.status []) = true ∧ Instr.wf (.readerReportEnd (rx (ascii "#1,4C07A19" ++ [0x0D])) false) = true := by decide

/-! ## The worked examples of the manual -/

/-- Section 12.7's checksums: "STATUS" is framed with E4, "ERR,BUSY" with 58. -/
theorem test_status_frame : parseFrame (rx (ascii "<STATUS*E4" ++ [0x0D])) = .good (some .status) [] := by decide
theorem test_frame_bad_check : parseFrame (rx (ascii "<STATUS*E5" ++ [0x0D])) = .malformed := by decide
theorem test_busy_frame : frameText 0x3E (ascii "ERR,BUSY") = ascii ">ERR,BUSY*58" ++ [0x0D] := by decide
theorem test_zero_check : frameText 0x3C (ascii "ZERO,A") = ascii "<ZERO,A*AD" ++ [0x0D] := by decide

/-- The examples of R19. -/
theorem test_round_half : roundDiv 5 2 = 3 ∧ roundDiv (-5) 2 = -3 ∧ roundDiv (-24) 100 = 0 ∧ roundDiv 24999 10000 = 2 := by
  decide

/-- The example of R150: with validity 90 a tare of day 700 is current up to day 790. -/
theorem test_tare_window :
    State.tareCurrent { State.reset with time := { State.reset.time with day := 790, valid := true } }
        { vehicle1 with tare := some ⟨11140, 5, .a, 700, false⟩ } = true ∧
      State.tareCurrent { State.reset with time := { State.reset.time with day := 791, valid := true } }
        { vehicle1 with tare := some ⟨11140, 5, .a, 700, false⟩ } = false := by decide

/-- Reset, link start and the end of STARTING lead from power-on to the reset state's values (log 1). -/
theorem test_cold_start_runs :
    (after .startingEnd (after .officeLinkStart (after (.powerOn false false noUnacked) State.reset))) = State.reset := by
  decide

/-- A command at the front of the queue runs, and the host's word spells none (log 1). -/
theorem test_word_spells_no_command :
    Sys2Proof.decodeTableWord 8 0 = none ∧ State.reset.withFetchWord 8 0 = State.reset := by decide

/-! ## The worked computation of section 2.12, and the states built on it -/

def calA : Calib :=
  { n := 4, offsets := [12300, -8450, 15020, 4060], trims := [65536, 66191, 64880, 65536], span := 3932160, zCal := 200000,
    max := 60000, d := 20 }

def chainA : Chain :=
  { window := [18467180, 18467300, 18467215], stab := [18467190, 18467310, 18467260], seq := 1207,
    latest := { seq := 1207, w := some 18260, a := some (-4800), flags := { Flags.clear with valid := true, stable := true } },
    z := 212400, zeroRange := false, pendingZero := false, capture := none }

def frameA : FrameEntry :=
  { counter := 7, samples := [1250300, 1180750, 1302420, 1215060], badChannel := false, cellFault := false }

/-- Deck A of section 2.12 with its frame at the head of the intake. -/
def loaded : State :=
  { State.reset with
    settings := { State.reset.settings with
      cal := { a := calA, b := Calib.builtIn },
      weigh := { WeighSet.builtIn with n := 4, m := 4 },
      status := { State.reset.settings.status with s1 := .accepted } },
    intakes := { State.reset.intakes with
      a := { Intake.reset 4 with link := .running, timer := some 100, last := some 7, entries := [frameA] } },
    chains := { State.reset.chains with a := chainA } }

/-- The same with a visit on platform A and a capture open. -/
def weighing (v : Visit) : State :=
  withPlat .a (fun r => { r with state := .weighing, visit := some v.id }) (withVisit v
    { loaded with chains := { loaded.chains with a := { chainA with capture := some ⟨none, 30000⟩ } } })

theorem test_worked_computation :
    (after (.consumeFrame .a) loaded).chains.a.latest.w = some 18260 ∧
      (after (.consumeFrame .a) loaded).chains.a.latest.a = some 18254835 ∧
      (after (.consumeFrame .a) loaded).chains.a.latest.seq = 1208 ∧
      (after (.consumeFrame .a) loaded).chains.a.latest.flags = { Flags.clear with valid := true, stable := true } := by decide

/-- The worked tracking step of section 3.2. -/
theorem test_tracking_step :
    (after .oneSecondTick loaded).chains.a.z = 207600 ∧ (after .oneSecondTick loaded).chains.a.pendingZero = true := by decide

/-- The first weighing of section 9.7: 18,260 kg under the next capture number, and off to tip. -/
theorem test_first_weighing :
    ((after (.consumeFrame .a) (weighing { visit1 with state := .onDeck })).visitById 1).map (·.first) =
        some (some { weight := 18260, number := 1, platform := .a, day := 0, second := 0, unset := true }) ∧
      (after (.consumeFrame .a) (weighing { visit1 with state := .onDeck })).plat.recs.a.outcome = some .nextTipping := by
  decide

/-- Section 9.7's net: a first weighing of 25,380 kg less 18,260 kg is 7,120 kg. -/
theorem test_net_of_two_weighings :
    ((after (.consumeFrame .a) (weighing { visit1 with
        state := .onDeck, leg := .second, first := some ⟨25380, 1, .a, 0, 0, true⟩ })).visitById 1).map (·.net) =
      some (some 7120) := by decide

/-- Section 9.7: a second weighing above the first puts the visit in QUERY, without a ticket. -/
theorem test_negative_net_is_query :
    ((after (.consumeFrame .a) (weighing { visit1 with
        state := .onDeck, leg := .second, first := some ⟨18220, 1, .a, 0, 0, true⟩ })).visitById 1).map (·.state) =
      some .query := by decide

/-- Section 12.7: while a reply goes out and a request is pending, a further one is owed ERR,BUSY. -/
theorem test_third_request_owed_busy :
    (after (.queue []) (after (.weight []) (after (.status []) State.reset))).link.owed = [.busy] := by decide

/-- R201: a frame that arrives in two pieces is judged whole. -/
theorem test_frame_in_pieces :
    after (.officeFrameEnd (rx (ascii "TATUS*E4" ++ [0x0D]))) (after (.officeFrameEnd (rx (ascii "<S"))) State.reset) =
      after (.status []) State.reset := by decide

/-- R201: 500 ms without a character end an open frame as malformed; without one open nothing runs. -/
theorem test_frame_gap :
    (after (.officeFrameEnd (rx (ascii "<S"))) State.reset).link.gap = some 500 ∧
      (after .frameGapTimeout (after (.officeFrameEnd (rx (ascii "<S"))) State.reset)).link.inService =
        some ⟨.err .frame, false⟩ ∧
      after .frameGapTimeout State.reset = State.reset := by decide

/-- R200: a '<' that carries a framing error starts no frame. -/
theorem test_faulty_start_is_discarded :
    after (.officeFrameEnd (⟨0x3C, true⟩ :: rx (ascii "STATUS*E4" ++ [0x0D]))) State.reset = State.reset := by decide

/-- R196: OFFLINE the silence timer does not run, and its expiry does nothing. -/
theorem test_silence_offline :
    let s := { State.reset with watch := { period := some 60, online := false, timer := some 1, offlineMs := 7 } }
    after .silenceTimerExpiry s = s := by decide

/-- R74: a report whose '#' came in STARTING is discarded uncounted, and another that is abandoned is counted. -/
theorem test_abandoned_reports :
    (after (.readerReportAbandoned ⟨.hashInside, true⟩) State.reset).readerErrors = 0 ∧
      (after (.readerReportAbandoned ⟨.hashInside, false⟩) State.reset).readerErrors = 1 := by decide

/-! ## Hypotheses met: the step and its laws -/

def oneWaits : State := { State.reset with pending := [.syncPulseEnd] }

theorem hyp_step_runs_front : oneWaits.pending = Instr.syncPulseEnd :: [] := by decide

theorem hyp_idle_step :
    (starting.pending = [] ∧ starting.running = false ∧ starting.flying = none) ∧
      (State.reset.pending = [] ∧ State.reset.running = true ∧ State.reset.frameReady .a = false ∧
        State.reset.frameReady .b = false ∧ State.reset.pairReady = false ∧ State.reset.flying = none) := by decide

/-- The barrier A-N one tick before its travel limit. -/
def oneTimer : State :=
  { State.reset with bars := { State.reset.bars with aN := { State.reset.bars.aN with state := .raising, timer := some 1 } } }

theorem hyp_tick_counts : countsDown State.reset (countDown State.reset) ∧ countsDown oneTimer (countDown oneTimer) := by
  constructor <;>
    refine ⟨rfl, fun d => ?_, fun p => ?_, fun i => ?_, fun b => ?_, fun r => ?_, fun g => ?_, ⟨rfl, fun p => ?_⟩,
      ⟨rfl, fun p => ?_⟩, rfl, rfl, rfl⟩
  any_goals (cases d <;> rfl)
  any_goals (cases p <;> rfl)
  any_goals (obtain ⟨b, l⟩ := i; cases b <;> cases l <;> rfl)
  any_goals (cases b <;> rfl)
  any_goals (cases g <;> rfl)
  all_goals (cases r <;> exact ⟨rfl, fun n h => (by cases h), fun _ => rfl⟩)

/-- A tick that brings nothing due. -/
theorem hyp_tick_nothing_due (c : Instr) : ¬ (countDown State.reset).due c := by
  cases c <;> intro h
  case debounceExpiry i => obtain ⟨b, l⟩ := i; cases b <;> cases l <;> cases h
  case captureTimerExpiry p => obtain ⟨k, h, -⟩ := h; cases p <;> cases h
  case settingsTransferTimeout => obtain ⟨w, h, -⟩ := h; cases h
  case repeatHoldExpiry r => cases r <;> cases h
  all_goals first | cases h | (rename_i x; cases x <;> cases h)

/-- A tick that brings one expiry due, which leaves nothing due. -/
theorem hyp_tick_one_due :
    (countDown oneTimer).due (.travelTimerExpiry .aN) ∧
      (∀ x, (countDown oneTimer).due x → x = .travelTimerExpiry .aN) ∧
      exec (.travelTimerExpiry .aN) (countDown oneTimer) =
        .next (after (.travelTimerExpiry .aN) (countDown oneTimer)) ∧
      (∀ x, ¬ (after (.travelTimerExpiry .aN) (countDown oneTimer)).due x) := by
  refine ⟨rfl, fun x => ?_, rfl, fun x => ?_⟩ <;> cases x <;> intro h
  case refine_1.travelTimerExpiry b => cases b <;> first | rfl | cases h
  case refine_1.debounceExpiry i | refine_2.debounceExpiry i => obtain ⟨b, l⟩ := i; cases b <;> cases l <;> cases h
  case refine_1.captureTimerExpiry p | refine_2.captureTimerExpiry p => obtain ⟨k, h, -⟩ := h; cases p <;> cases h
  case refine_1.settingsTransferTimeout | refine_2.settingsTransferTimeout => obtain ⟨w, h, -⟩ := h; cases h
  all_goals first | cases h | (rename_i x; cases x <;> cases h)

theorem hyp_step_answers : step oneWaits = .next (after .syncPulseEnd State.reset) := rfl

theorem hyp_laws_met :
    oneWaits.memSound ∧ oneWaits.signsSound ∧ (oneWaits.link.notices.length ≤ 16) ∧ oneWaits.numbersSound := by
  unfold State.memSound State.signsSound State.numbersSound; decide

theorem hyp_barrier_laws_met : oneWaits.drivesFollow ∧ oneWaits.beamsSafe ∧ oneWaits.beaconsFollow := by
  refine ⟨fun b => ?_, fun b => ?_, fun _ d => ?_⟩
  · cases b <;> decide
  · cases b <;> decide
  · cases d <;> decide

theorem hyp_link_laws_met : oneWaits.linkSound ∧ oneWaits.transmitterSound := by
  refine ⟨⟨by decide, by decide, by decide, fun c => ?_, by decide, by decide⟩, by unfold State.transmitterSound; decide⟩
  cases c <;> (unfold ClassRec.sound; decide)

theorem hyp_intake_laws_met : oneWaits.intakesSound ∧ oneWaits.zerosSound ∧ oneWaits.printersSound := by
  refine ⟨⟨fun d => ?_, by decide⟩, fun p => ?_, fun p => ?_⟩
  · cases d <;> (unfold Intake.sound Counters.sound; decide)
  · cases p <;> decide
  · cases p <;> decide

theorem hyp_table_laws_met : (withVisit visit1 oneWaits).visitsSound ∧ oneWaits.tablesSound := by
  unfold State.visitsSound State.tablesSound idInRange; decide

theorem hyp_clock_law_met : oneWaits.clockSound := by
  refine ⟨by decide, fun p h => ?_, by decide, by decide⟩
  cases h

/-- A queued visit of account 14, whose estimate is reserved, and a command waiting. -/
def yard1 : State :=
  { queuedOnce (withVisit { visit1 with account := 14 } State.reset) with
    pending := [.syncPulseEnd],
    tables := { vehicles := [], accounts := [(0, Account.cash), (14, { Account.cash with reserved := 9000 })] } }

theorem hyp_yard_laws_met : yard1.yardSound := by
  refine ⟨by unfold State.visitsSound idInRange; decide, ⟨by decide, fun id => ?_⟩, ⟨?_, ?_, ?_, ?_, ?_, ?_⟩, by decide, ?_, ?_⟩
  · constructor
    · intro h
      have : id = 1 := by simpa [yard1, State.queued, queuedOnce] using h
      subst this; exact ⟨{ visit1 with account := 14 }, by decide, by decide, by decide⟩
    · rintro ⟨v, hv, rfl, -⟩
      have : v = { visit1 with account := 14 } := by simpa [yard1, queuedOnce, withVisit] using hv
      subst this; decide
  · intro p id h; cases p <;> cases h
  · intro p _; cases p <;> decide
  · intro p q id h; cases p <;> cases h
  · intro v hv h
    have : v = { visit1 with account := 14 } := by simpa [yard1, queuedOnce, withVisit] using hv
    subst this; exfalso; unfold VisitState.bound at h; revert h; decide
  · intro p; cases p <;> decide
  · intro p; cases p <;> decide
  · intro tag h; cases h
  · intro id h; cases h

theorem hyp_books_laws_met : yard1.tablesSound ∧ yard1.booksSound := by
  refine ⟨by unfold State.tablesSound; decide, by decide, fun n a h => ?_, by decide, fun v hv => ?_⟩
  · by_cases h0 : n = 0
    · subst h0; cases h; decide
    · by_cases h14 : n = 14
      · subst h14; cases h; decide
      · exfalso
        have e : yard1.account n = none := by
          simp [State.account, yard1, queuedOnce, withVisit, tabGet, Ne.symm h0, Ne.symm h14]
        rw [e] at h; cases h
  · have : v = { visit1 with account := 14 } := by simpa [yard1, queuedOnce, withVisit] using hv
    subst this
    refine ⟨fun h => (by cases h), ?_⟩
    rintro (h | ⟨p, h, -⟩)
    · cases h
    · cases p <;> cases h

/-! ## Hypotheses met: arithmetic, judgements, barrier requests -/

theorem hyp_rounding_half : 0 < 2 ∧ 2 * (roundDiv 5 2 * (2 : Nat) - 5).natAbs = 2 := by decide

theorem hyp_capture_succeeds :
    captureSucceeds 20 60000 (produceResult 4 4 10
      { d := 20, max := 60000, linksRunning := true, inRefill := false, calibrated := true, cellFault := false,
        badChannel := false } 18467243 chainA).latest = true := by decide

/-- Classes 0, 3 and 6 have base levels 1, 2 and 3 by the built-in map, and one with base level 0 is made here. -/
theorem hyp_levels :
    State.reset.settings.plat.levels.getD 0 0 = 1 ∧ State.reset.settings.plat.levels.getD 3 0 = 2 ∧
      State.reset.settings.plat.levels.getD 6 0 = 3 ∧
      ({ PlatSet.builtIn with levels := [0, 1, 1, 2, 2, 2, 3, 3] }).levels.getD 0 0 = 0 ∧
      visit1.leg = .first ∧ ({ visit1 with leg := .second }).leg = .second := by decide

theorem hyp_barrier_requests :
    State.reset.drives.get .aN = driveOf (State.reset.bars.get .aN) ∧ (State.reset.bars.get .aN).state = .down ∧
      ((withBar .aN .lowering State.reset).bars.get .aN).state = .lowering ∧
      ((withBar .aN .raising State.reset).bars.get .aN).state = .raising ∧
      ((withBar .aN .up State.reset).bars.get .aN).state = .up ∧
      ((withBar .aN .fault State.reset).bars.get .aN).state = .fault ∧
      (withBar .aN .up State.reset).effective .aN .beam = false ∧
      (withInput ⟨.aN, .beam⟩ false true none (withBar .aN .up State.reset)).effective .aN .beam = true := by decide

/-! ## Hypotheses met: requests and the office link -/

theorem hyp_refused_request :
    requestRow (.zero []) = some (.zero, []) ∧ State.reset.ready ∧
      (ownerRule .zero [] State.reset.heard).2 = .err .args ∧
      (starting.running = false ∧ starting.watch.online = true ∧ starting.link.started = true ∧
        starting.link.inService = none ∧ starting.link.owed = []) := by decide

def malformed : List RxByte := rx (ascii "<STATUS*E5" ++ [0x0D])

def service : Service := { reply := .ok [], restart := false }

/-- The link with a reply going out. -/
def replying : State := withLink (fun l => { l with inService := some service, sending := some (.reply service) }) State.reset

/-- A frame that arrives whole behind discarded characters, and one whose first characters are held. -/
theorem hyp_arrives :
    arrivesAs [] (⟨0x3C, true⟩ :: rx (ascii "x<STATUS*E4" ++ [0x0D])) (rx (ascii "<STATUS*E4" ++ [0x0D])) ∧
      arrivesAs (rx (ascii "<S")) (rx (ascii "TATUS*E4" ++ [0x0D])) (rx (ascii "<STATUS*E4" ++ [0x0D])) ∧
      arrivesAs [] malformed malformed := by
  refine ⟨⟨⟨0x3C, true⟩ :: rx (ascii "x"), rx (ascii "STATUS*E4"), ⟨0x3C, false⟩, ⟨0x0D, false⟩, ?_⟩,
    ⟨[], rx (ascii "STATUS*E4"), ⟨0x3C, false⟩, ⟨0x0D, false⟩, ?_⟩,
    ⟨[], rx (ascii "STATUS*E5"), ⟨0x3C, false⟩, ⟨0x0D, false⟩, ?_⟩⟩ <;> decide

/-- An open frame with the gap timer running; characters without a CR outside a frame and in one. -/
theorem hyp_pieces :
    ((withLink (fun l => { l with assembly := rx (ascii "<S"), gap := some 500 }) State.reset).link.gap ≠ none ∧
        State.reset.running = true ∧ State.reset.link.gap = none ∧ starting.running = false) ∧
      (∀ c ∈ State.reset.link.assembly ++ rx (ascii "ab"), c.code ≠ 0x0D) ∧
      (∀ c ∈ State.reset.link.assembly ++ rx (ascii "ab"), c.code ≠ 0x3C ∨ c.faulty = true) ∧
      State.reset.link.assembly ++ rx (ascii "ab<S") = rx (ascii "ab") ++ ⟨0x3C, false⟩ :: rx (ascii "S") ∧
      (∀ c ∈ State.reset.link.assembly ++ rx (ascii "ab<S"), c.code ≠ 0x0D) := by decide

theorem hyp_frame_placement :
    parseFrame malformed = .malformed ∧
      (withLink (fun l => { l with started := false }) State.reset).link.started = false ∧
      (State.reset.link.started = true ∧ State.reset.link.inService = none ∧ State.reset.link.owed = []) ∧
      (replying.link.started = true ∧ replying.watch.online = true ∧ replying.link.sending ≠ none ∧
        replying.link.inService ≠ none ∧ replying.link.owed = [] ∧ replying.link.waiting = none) := by decide

/-- The list of owed refusals one short of full, and full. -/
theorem hyp_frame_placement_owed :
    (withLink (fun l => { l with waiting := some .malformed, owed := List.replicate 15 .busy }) replying).link.owed.length < 16 ∧
      (withLink (fun l => { l with waiting := some .malformed, owed := List.replicate 15 .busy }) replying).link.owed ≠ [] ∧
      16 ≤ (withLink (fun l => { l with waiting := some .malformed, owed := List.replicate 16 .busy }) replying).link.owed.length := by
  decide

theorem hyp_request_placement :
    requestRow (.zero [ascii "A"]) = some (.zero, [ascii "A"]) ∧
      parseFrame (rx (ascii "<ZERO,A*AD" ++ [0x0D])) = .good (some .zero) [ascii "A"] ∧
      parseFrame (rx (frameText 0x3C (ascii "HELLO"))) = .good none [] ∧ State.reset.ready := by decide

def notice1 : Notice := { name := "MODE_CHANGED", fields := [.word "SPLIT"] }

theorem hyp_transmitter :
    replying.link.sending = some (.reply service) ∧
      ((withLink (fun l => { l with sending := none }) replying).link.inService = some service ∧
        (withLink (fun l => { l with sending := none }) replying).link.sending = none) ∧
      ((withLink (fun l => { l with owed := [.busy] }) State.reset).link.owed = .busy :: [] ∧
        (withLink (fun l => { l with owed := [.busy] }) State.reset).link.waiting = none) ∧
      (withLink (fun l => { l with notices := [notice1] }) State.reset).link.notices = notice1 :: [] ∧
      (withLink (fun l => { l with sending := some (.notice notice1) }) State.reset).link.sending = some (.notice notice1) ∧
      (withLink (fun l => { l with sending := some (.refusal .busy) }) State.reset).link.sending = some (.refusal .busy) ∧
      (withLink (fun l => { l with waiting := some .malformed }) replying).link.waiting = some .malformed := by decide

def waitingBehind (f : RxFrame) (s : State) : State :=
  { s with link := { State.reset.link with inService := some service, sending := some (.reply service), waiting := some f } }

/-- A pending frame without a known name, a request in STARTING, STATUS in STARTING, and one that its rule takes. -/
theorem hyp_pending_frames :
    (waitingBehind (.good none []) State.reset).link.waiting = some (.good none []) ∧
      ((waitingBehind (.good (some .zero) [ascii "A"]) starting).running = false ∧ ReqName.zero ≠ .status) ∧
      ((waitingBehind (.good (some .status) []) starting).link.sending = some (.reply ⟨.ok [], false⟩) ∧
        (waitingBehind (.good (some .status) []) starting).link.waiting = some (.good (some .status) [])) ∧
      (requestRow (.zero [ascii "A"]) = some (.zero, [ascii "A"]) ∧
        (waitingBehind (.good (some .zero) [ascii "A"]) State.reset).running = true ∧
        (waitingBehind (.good (some .zero) [ascii "A"]) State.reset).heard =
          waitingBehind (.good (some .zero) [ascii "A"]) State.reset) ∧
      (waitingBehind (.good (some .restart) []) State.reset).link.waiting = some (.good (some .restart) []) := by decide

def enabledGate (latched : Bool) : State :=
  withLink (fun l => { l with classes := l.classes.set .gate { enabled := true, latched := latched } }) State.reset

theorem hyp_notices :
    parseWord NoticeClass.words (ascii "GATE") = some .gate ∧ parseWord onOffWords (ascii "ON") = some true ∧
      parseWord onOffWords (ascii "OFF") = some false ∧ (State.reset.link.classes.get .gate).enabled = false ∧
      ((enabledGate true).ready ∧ ((enabledGate true).link.classes.get .gate).enabled = true ∧
        ((enabledGate true).link.classes.get .gate).latched = true ∧ (enabledGate true).link.notices.length < 16) ∧
      ((enabledGate false).link.classes.get .gate).latched = false ∧
      (withLink (fun l => { l with notices := List.replicate 15 notice1 }) (enabledGate true)).link.notices.length < 16 ∧
      16 ≤ (withLink (fun l => { l with notices := List.replicate 16 notice1 }) (enabledGate true)).link.notices.length ∧
      ({ enabledGate true with watch := { Watch.reset with online := false } }).watch.online = false := by decide

theorem hyp_reads_of_yard :
    State.reset.ready ∧ parseWord Platform.words (ascii "A") = some .a ∧ State.reset.current .a = true ∧
      parseWord Platform.words (ascii "AB") = some .ab ∧ State.reset.current .ab = false ∧
      parseInput (ascii "AN.LOOP") = some ⟨.aN, .loop⟩ ∧ parseInput (ascii "EX.DOWN") = some ⟨.eX, .down⟩ ∧
      parseInput (ascii "AN.RAISE") = none ∧ parseOutput (ascii "AN.RAISE") = some (.raise .aN) := by decide

theorem hyp_reads_of_part :
    parseDec (ascii "1") = some ((1 : Nat) : Int) ∧ parseDec (ascii "7") = some ((7 : Nat) : Int) ∧
      (starting.running = false ∧ starting.link.started = true) := by decide

/-- A state with a vehicle record, a journal entry and an open, queued visit. -/
def stocked : State :=
  queuedOnce (withVisit visit1
    { State.reset with
      tables := { State.reset.tables with vehicles := [(1023, vehicle1)] },
      tickets := { State.reset.tickets with journal := [entry1], nextTicket := 2 } })

theorem hyp_reads_of_tables :
    stocked.ready ∧ tagOk (ascii "4C07A19") = true ∧ stocked.vehicleByTag (ascii "4C07A19") = some (1023, vehicle1) ∧
      parseDec (ascii "0") = some ((0 : Nat) : Int) ∧ stocked.account 0 = some Account.cash ∧
      stocked.tickets.journal[0]? = some entry1 ∧ parseDec (ascii "1") = some ((1 : Nat) : Int) ∧
      stocked.visitById 1 = some visit1 ∧ 1 ≤ stocked.visits.table.length ∧ 1 ≤ stocked.alloc.queue.length ∧
      (State.reset.visits.table.length = 0 ∧ State.reset.alloc.queue.length = 0) := by decide

/-! ## Hypotheses met: load cells and weighing -/

/-- A burst of four channels, all OK and 0, with a counter. -/
def burstBytes (counter : Byte) : List RxByte :=
  rx ([0xB6, counter, 4] ++ List.replicate 16 0x00 ++ [counter ^^^ 4])

def frameOf (counter : Byte) : RawFrame := { counter := counter, channels := List.replicate 4 (true, 0) }

def deckA (f : Intake → Intake) (s : State) : State := { s with intakes := { s.intakes with a := f s.intakes.a } }

theorem hyp_burst_refused :
    starting.running = false ∧ State.reset.running = true ∧ parseBurst (rx [0xB6]) = none ∧
      (parseBurst (burstBytes 8) = some (frameOf 8) ∧
        (frameOf 8).channels.length ≠
          ({ State.reset.settings with cal := { a := { calA with n := 2 }, b := calA } }).cal.a.n) := by decide

theorem hyp_burst_taken :
    parseBurst (burstBytes 8) = some (frameOf 8) ∧ (frameOf 8).channels.length = (loaded.settings.cal.get .a).n ∧
      (loaded.intakes.get .a).refill = false ∧ (loaded.intakes.get .a).link = .running ∧
      (loaded.intakes.get .a).entries.length < 8 ∧
      ((deckA (fun i => { i with entries := List.replicate 7 frameA }) loaded).intakes.get .a).entries.length < 8 ∧
      8 ≤ ((deckA (fun i => { i with entries := List.replicate 8 frameA }) loaded).intakes.get .a).entries.length ∧
      loaded.plat.mode = .split ∧ (State.reset.intakes.get .a).link ≠ .running ∧
      (State.reset.intakes.get .a).entries.length < 8 ∧ (State.reset.intakes.get .a).refill = false := by decide

/-- Both links RUNNING in COMBINED mode. -/
def joinedDecks (f g : Intake → Intake) : State :=
  { loaded with
    plat := { loaded.plat with mode := .combined },
    intakes := { a := f { loaded.intakes.a with entries := [] },
                 b := g { Intake.reset 4 with link := .running, timer := some 100 } } }

/-- REFILL: an overflow with both links RUNNING; a link that enters RUNNING beside a RUNNING one; frames with counter 8 and 0 that
reach an intake in REFILL, the other deck still in REFILL or not. -/
theorem hyp_burst_refill :
    let full := joinedDecks (fun i => { i with entries := List.replicate 8 frameA }) id
    let entering := joinedDecks (fun i => { i with link := .stale, stale := 3 }) id
    let refill (g : Intake → Intake) := joinedDecks (fun i => { i with refill := true }) g
    (full.intakes.a.refill = false ∧ full.intakes.a.link = .running ∧ 8 ≤ full.intakes.a.entries.length ∧
        full.plat.mode = .combined ∧ (full.intakes.get (otherDeck .a)).link = .running) ∧
      (entering.intakes.a.link ≠ .running ∧ (entering.intakes.get (otherDeck .a)).link = .running) ∧
      parseBurst (burstBytes 0) = some (frameOf 0) ∧ (frameOf 8).counter ≠ 0 ∧ (frameOf 0).counter = 0 ∧
      ((refill id).intakes.a.refill = true ∧ (refill id).intakes.a.link = .running ∧
        ((refill id).intakes.get (otherDeck .a)).refill = false) ∧
      ((refill fun i => { i with refill := true }).intakes.get (otherDeck .a)).refill = true ∧
      (joinedDecks (fun i => { i with link := .stale, refill := true }) fun i => { i with link := .stale }).intakes.a.refill =
        true := by decide

def staleA (n : Nat) : State := deckA (fun i => { i with link := .stale, stale := n }) loaded

/-- The built-in stale-to-fault count is 10. -/
theorem hyp_frame_timer :
    (loaded.intakes.get .a).timer ≠ none ∧ (loaded.intakes.get .a).link = .running ∧
      ((staleA 8).intakes.get .a).timer ≠ none ∧ ((staleA 8).intakes.get .a).link = .stale ∧
      ((staleA 8).intakes.get .a).stale + 1 < (staleA 8).settings.weigh.staleToFault ∧
      (staleA 9).settings.weigh.staleToFault ≤ ((staleA 9).intakes.get .a).stale + 1 := by decide

/-- The fine weight of the frame of section 2.12. -/
def fineA : Int := fineWeight frameA.samples calA

theorem hyp_consume_frame :
    loaded.feeds (.consumeFrame .a) .a fineA false false (loaded.intakes.set .a { loaded.intakes.a with entries := [] }) :=
  ⟨by decide, .inl ⟨.a, frameA, [], rfl, rfl, by decide, by decide, by decide, rfl, rfl, rfl, rfl⟩⟩

/-- No capture, and one that a result without STABLE does not satisfy. -/
theorem hyp_consume_capture :
    let s := { weighing visit1 with settings := { loaded.settings with weigh := { loaded.settings.weigh with m := 16 } } }
    (loaded.chains.get .a).capture = none ∧ (s.chains.get .a).capture = some ⟨none, 30000⟩ ∧
      captureSucceeds (s.divisionOf .a) (s.maxOf .a) (s.chainAfter .a fineA false false).latest = false ∧
      (s.chainAfter .a fineA false false).latest.flags.valid = true ∧
      (s.chainAfter .a fineA false false).latest.w = some 18260 ∧ (18260 : Int) ≤ s.maxOf .a ∧
      (20 * s.divisionOf .a : Nat) ≤ (18260 : Int) ∧
      (s.chainAfter .a fineA true false).latest.flags.valid = false := by decide

/-- Deck heads in COMBINED mode under two counters. -/
def pair (a b : Byte) : State :=
  { State.reset with
    plat := { State.reset.plat with mode := .combined },
    intakes := { a := { Intake.reset 4 with link := .running, entries := [{ frameA with counter := a }] },
                 b := { Intake.reset 4 with link := .running, entries := [{ frameA with counter := b }] } } }

theorem hyp_consume_pair :
    (pair 7 7).feeds .consumePair .ab (fineWeight frameA.samples Calib.builtIn + fineWeight frameA.samples Calib.builtIn) false
      false { a := { (pair 7 7).intakes.a with entries := [] }, b := { (pair 7 7).intakes.b with entries := [] } } :=
  ⟨by decide, .inr ⟨{ frameA with counter := 7 }, [], { frameA with counter := 7 }, [], rfl, rfl, rfl, by decide, by decide, rfl,
    rfl, rfl, rfl, rfl, rfl, rfl⟩⟩

/-- Counters one apart either way, 127 apart across the wrap, and 128 apart. -/
theorem hyp_pair_counters :
    ((8 : Byte) - 7).toNat = 1 ∧ ((126 : Byte) - 255).toNat = 127 ∧ ((135 : Byte) - 7).toNat = 128 := by decide

theorem hyp_first_weighing :
    (weighing visit1).feeds (.consumeFrame .a) .a fineA false false
        ((weighing visit1).intakes.set .a { (weighing visit1).intakes.a with entries := [] }) ∧
      ((weighing visit1).chains.get .a).capture = some ⟨none, 30000⟩ ∧
      captureSucceeds ((weighing visit1).divisionOf .a) ((weighing visit1).maxOf .a)
        ((weighing visit1).chainAfter .a fineA false false).latest = true ∧
      ((weighing visit1).chainAfter .a fineA false false).latest.w = some 18260 ∧
      ((weighing visit1).platRec .a).state = .weighing ∧ (weighing visit1).boundVisit .a = some visit1 ∧
      visit1.pass = .two ∧ visit1.leg = .first ∧
      ((weighing visit1).bar ((weighing visit1).exitBar .a)).state ≠ .fault := by
  refine ⟨⟨by decide, .inl ⟨.a, frameA, [], rfl, rfl, by decide, by decide, by decide, rfl, rfl, rfl, rfl⟩⟩, ?_⟩
  decide

/-- The worked load on both decks of platform AB, with a visit on it and a capture open. -/
def weighingPair (v : Visit) : State :=
  withPlat .ab (fun r => { r with state := .weighing, visit := some v.id }) (withVisit v
    { loaded with
      plat := { loaded.plat with mode := .combined },
      settings := { loaded.settings with
        cal := { a := calA, b := calA }, status := { loaded.settings.status with s2 := .accepted } },
      intakes := { a := loaded.intakes.a, b := loaded.intakes.a },
      chains := { loaded.chains with ab := { chainA with
        window := [36934360, 36934600, 36934430], stab := [36934380, 36934620, 36934520], z := 424800,
        capture := some ⟨none, 30000⟩ } } })

theorem hyp_first_weighing_pair :
    (weighingPair visit1).feeds .consumePair .ab (fineA + fineA) false false
        { a := { (weighingPair visit1).intakes.a with entries := [] },
          b := { (weighingPair visit1).intakes.b with entries := [] } } ∧
      ((weighingPair visit1).chains.get .ab).capture = some ⟨none, 30000⟩ ∧
      captureSucceeds ((weighingPair visit1).divisionOf .ab) ((weighingPair visit1).maxOf .ab)
        ((weighingPair visit1).chainAfter .ab (fineA + fineA) false false).latest = true ∧
      ((weighingPair visit1).chainAfter .ab (fineA + fineA) false false).latest.w = some 36500 ∧
      ((weighingPair visit1).platRec .ab).state = .weighing ∧ (weighingPair visit1).boundVisit .ab = some visit1 ∧
      ((weighingPair visit1).bar ((weighingPair visit1).exitBar .ab)).state ≠ .fault := by
  refine ⟨⟨by decide, .inr ⟨frameA, [], frameA, [], rfl, rfl, by decide, by decide, by decide, rfl, rfl, rfl, rfl, rfl, rfl,
    rfl⟩⟩, ?_⟩
  decide

def secondLeg (dir : Direction) (first : Int) : Visit :=
  { visit1 with state := .onDeck, leg := .second, direction := dir, first := some ⟨first, 1, .a, 0, 0, true⟩ }

/-- The second leg, inbound and outbound with a net of 0, and negative; and a SINGLE visit with a net of 0. The rest is as at the
first weighing. -/
theorem hyp_weighing_decides :
    (weighing (secondLeg .inbound 18260)).boundVisit .a = some (secondLeg .inbound 18260) ∧
      (secondLeg .inbound 18260).pass = .two ∧ (secondLeg .inbound 18260).leg = .second ∧
      (0 : Int) = 18260 - 18260 ∧ (-40 : Int) = 18220 - 18260 ∧
      (weighing (secondLeg .outbound 18220)).boundVisit .a = some (secondLeg .outbound 18220) ∧
      (weighing { visit1 with pass := .single, tare := some ⟨18260, 1, .a, 0, true⟩ }).boundVisit .a =
        some { visit1 with pass := .single, tare := some ⟨18260, 1, .a, 0, true⟩ } ∧
      (weighing (secondLeg .inbound 18260)).watch.online = true ∧ (weighing (secondLeg .inbound 18260)).printRoom .a ∧
      ¬ (withPrinter .a (fun r => { r with queue := List.replicate 4 ticket1 })
          (weighing (secondLeg .inbound 18260))).printRoom .a := by decide

def offline (policy : Policy) (s : State) : State :=
  { s with
    watch := { period := some 60, online := false, timer := none, offlineMs := 0 },
    settings := { s.settings with policy := policy } }

/-- A negative net of -40 while OFFLINE, under each policy. -/
theorem hyp_weighing_offline :
    (-40 : Int) < 0 ∧ (offline .hold (weighing (secondLeg .inbound 18220))).watch.online = false ∧
      (offline .hold (weighing (secondLeg .inbound 18220))).settings.policy = .hold ∧
      (offline .acceptZero (weighing (secondLeg .inbound 18220))).settings.policy = .acceptZero ∧
      (offline .acceptZero (weighing (secondLeg .inbound 18220))).printRoom .a ∧
      (weighingPair (secondLeg .inbound 36460)).boundVisit .ab = some (secondLeg .inbound 36460) ∧
      (weighingPair (secondLeg .inbound 36460)).printRoom .ab := by decide

def zeroA (f : Chain → Chain) : State := { loaded with chains := { loaded.chains with a := f chainA } }

/-- The refusals of ZERO in their order, and the limit of 1,200,000 g met exactly and passed by 1 g. -/
theorem hyp_zero :
    loaded.ready ∧ parseWord Platform.words (ascii "A") = some .a ∧ (loaded.chains.get .a).latest.a = some (-4800) ∧
      loaded.current .a = true ∧ (loaded.platRec .a).state = .free ∧ loaded.platSuspended .a = false ∧
      (loaded.chains.get .a).pendingZero = false ∧ (loaded.chains.get .a).latest.flags.valid = true ∧
      (loaded.chains.get .a).latest.flags.stable = true ∧ loaded.current .ab = false ∧
      ((zeroA fun c => { c with pendingZero := true }).chains.get .a).pendingZero = true ∧
      ((zeroA fun c => { c with latest := { c.latest with flags := Flags.clear } }).chains.get .a).latest.flags.valid = false ∧
      ((zeroA fun c => { c with z := 1404800 }).chains.get .a).z + -4800 - loaded.zRef .a = 1200000 ∧
      ((zeroA fun c => { c with z := 1404801 }).chains.get .a).z + -4800 - loaded.zRef .a = 1200001 ∧
      loaded.maxOf .a * 20 = 1200000 := by decide

theorem hyp_capture_expiry :
    ((weighing visit1).chains.get .a).capture = some ⟨none, 30000⟩ ∧ (Capture.mk none 30000).lastReason = none ∧
      (Capture.mk (some .motion) 30000).lastReason = some .motion := by decide

/-! ## Hypotheses met: inputs, barriers, readers, gates -/

def bounce (i : InputId) (high deb : Bool) (s : State) : State := withInput i high deb (some 20) s

/-- The loop of A-S: the same level, a noted one while STARTING, a debounce begun, cleared, and of 0 ms. -/
theorem hyp_input_change :
    (State.reset.inputs.input ⟨.aS, .loop⟩).high = false ∧ (State.reset.inputs.input ⟨.aS, .loop⟩).high ≠ true ∧
      starting.running = false ∧ (State.reset.inputs.input ⟨.aS, .loop⟩).override = .none ∧
      (State.reset.inputs.input ⟨.aS, .loop⟩).deb ≠ (true != (State.reset.inputSet ⟨.aS, .loop⟩).activeLow) ∧
      0 < (State.reset.inputSet ⟨.aS, .loop⟩).debounce ∧
      ((bounce ⟨.aS, .loop⟩ false true State.reset).inputs.input ⟨.aS, .loop⟩).deb =
        (true != (State.reset.inputSet ⟨.aS, .loop⟩).activeLow) ∧
      ({ activeLow := false, debounce := 0 } : InputSet).debounce = 0 := by decide

theorem hyp_debounce :
    ((bounce ⟨.aS, .loop⟩ true false State.reset).inputs.input ⟨.aS, .loop⟩).debounce ≠ none ∧
      ((bounce ⟨.aS, .loop⟩ true false State.reset).inputs.input ⟨.aS, .loop⟩).override = .none ∧
      ((bounce ⟨.aS, .loop⟩ true false State.reset).inputs.input ⟨.aS, .loop⟩).deb = false ∧
      (true != (State.reset.inputSet ⟨.aS, .loop⟩).activeLow) = true ∧
      ((bounce ⟨.aS, .loop⟩ false true State.reset).inputs.input ⟨.aS, .loop⟩).deb = true ∧
      (false != (State.reset.inputSet ⟨.aS, .loop⟩).activeLow) = false ∧ Barrier.aS ≠ .eN ∧
      State.reset.gates.entry.state ≠ .waitHost := by decide

/-- Beams are active low: a low level breaks the beam. -/
theorem hyp_reversal :
    let s := bounce ⟨.bS, .beam⟩ false false (withBar .bS .lowering State.reset)
    (s.inputs.input ⟨.bS, .beam⟩).debounce ≠ none ∧ (s.inputs.input ⟨.bS, .beam⟩).override = .none ∧
      (s.inputs.input ⟨.bS, .beam⟩).deb = false ∧ s.rawLevel ⟨.bS, .beam⟩ = true ∧ (s.bars.get .bS).state = .lowering := by
  decide

/-- A barrier that its UP limit reaches while RAISING, with its DOWN limit inactive. -/
def rising (b : Barrier) (s : State) : State :=
  bounce ⟨b, .up⟩ true false (withInput ⟨b, .down⟩ false false none (withBar b .raising s))

/-- The UP limit at a RAISING gate barrier, its gate open or CLOSED, with and without a lower pending. -/
theorem hyp_arm_up_gate :
    ((rising .eN State.reset).brings ⟨.eN, .up⟩ true ∧ (rising .eN State.reset).effective .eN .down = false ∧
        ((rising .eN State.reset).bars.get .eN).state = .raising ∧
        ((rising .eN State.reset).bars.get .eN).lowerPending = false ∧ Barrier.eN = gateBar .entry ∧
        ((rising .eN State.reset).gates.get .entry).state = .closed) ∧
      ((withGate .entry (fun g => { g with state := .opened }) (rising .eN State.reset)).gates.get .entry).state ≠ .closed ∧
      (let s := { rising .eN State.reset with bars := { (rising .eN State.reset).bars with
          eN := { (rising .eN State.reset).bars.eN with lowerPending := true } } }
       s.brings ⟨.eN, .up⟩ true ∧ (s.bars.get .eN).lowerPending = true ∧ s.beamBroken .eN = false ∧ s.plat.mode = .split) := by
  decide

/-- The same at the entry barrier of platform A: FREE, CALLING with a vehicle in the beam, and WEIGHING. -/
theorem hyp_arm_up_deck :
    ((rising .aS State.reset).platUser .aS = some .a ∧ ((rising .aS State.reset).platRec .a).state = .free ∧
        Barrier.aS = (rising .aS State.reset).entryBar .a ∧ (rising .aS State.reset).brings ⟨.aS, .up⟩ true) ∧
      (let s := rising .aS (withInput ⟨.aS, .beam⟩ false true none (withPlat .a (fun r =>
          { r with state := .calling, visit := some 1 }) (withVisit { visit1 with state := .called } State.reset)))
       s.brings ⟨.aS, .up⟩ true ∧ s.effective .aS .down = false ∧ s.beamBroken .aS = true ∧
         (s.platRec .a).state = .calling ∧ (s.platRec .a).visit = some 1 ∧
         s.boundVisit .a = some { visit1 with state := .called }) ∧
      (let s := rising .aS (withPlat .a (fun r => { r with state := .weighing, visit := some 1 }) (withVisit visit1 State.reset))
       (s.platRec .a).state ≠ .free ∧ (s.platRec .a).state ≠ .calling ∧ (s.platRec .a).state ≠ .switching) := by decide

/-- A barrier that its DOWN limit reaches while LOWERING. -/
def falling (b : Barrier) (s : State) : State := bounce ⟨b, .down⟩ true false (withBar b .lowering s)

/-- The DOWN limit at a LOWERING barrier: of a gate; of POSITIONING platform A, with and without a broken beam; of a FREE one; and
an inner barrier of AB. -/
theorem hyp_arm_down :
    ((falling .eN State.reset).brings ⟨.eN, .down⟩ true ∧ (falling .eN State.reset).effective .eN .up = false ∧
        ((falling .eN State.reset).bars.get .eN).state = .lowering ∧
        ((falling .eN State.reset).gates.get .entry).state ≠ .opened) ∧
      (let s := falling .aS
        (withPlat .a (fun r => { r with state := .positioning, visit := some 1 }) (withVisit visit1 State.reset))
       (s.platRec .a).state = .positioning ∧ Barrier.aS = s.entryBar .a ∧ s.beamBroken (s.entryBar .a) = false ∧
         s.beamBroken (s.exitBar .a) = false ∧
         (withInput ⟨.aN, .beam⟩ false true none s).beamBroken ((withInput ⟨.aN, .beam⟩ false true none s).exitBar .a) = true) ∧
      ((falling .aS State.reset).platRec .a).state ≠ .positioning ∧
      (let s := falling .aS { State.reset with plat := { State.reset.plat with mode := .combined } }
       s.platUser .aS = some .ab ∧ (s.platRec .ab).state ≠ .switching ∧ s.brings ⟨.aS, .down⟩ true) := by decide

/-- A limit lost or found where the barrier stands in DOWN and in UP, and changes of a limit that mean nothing. -/
theorem hyp_limits :
    ((bounce ⟨.aN, .down⟩ false true State.reset).brings ⟨.aN, .down⟩ false ∧
        ((bounce ⟨.aN, .down⟩ false true State.reset).bars.get .aN).state = .down) ∧
      (let s := bounce ⟨.aN, .up⟩ true false (withInput ⟨.aN, .down⟩ false false none State.reset)
       s.brings ⟨.aN, .up⟩ true ∧ s.effective .aN .down = false ∧ (s.bars.get .aN).state = .down) ∧
      ((bounce ⟨.aN, .up⟩ false true (withBar .aN .up State.reset)).brings ⟨.aN, .up⟩ false ∧
        ((bounce ⟨.aN, .up⟩ false true (withBar .aN .up State.reset)).bars.get .aN).state = .up) ∧
      (let s := bounce ⟨.aN, .down⟩ true false (withBar .aN .up State.reset)
       s.brings ⟨.aN, .down⟩ true ∧ s.effective .aN .up = false ∧ (s.bars.get .aN).state = .up) ∧
      ((bounce ⟨.aN, .down⟩ false true (withBar .aN .raising State.reset)).brings ⟨.aN, .down⟩ false ∧
        ((bounce ⟨.aN, .down⟩ false true (withBar .aN .raising State.reset)).bars.get .aN).state = .raising) ∧
      ((bounce ⟨.aN, .down⟩ false true (withBar .aN .fault State.reset)).bars.get .aN).state = .fault := by decide

theorem hyp_travel :
    ((withBar .aN .raising State.reset).bars.get .aN).timer ≠ none ∧
      ((withBar .aN .raising State.reset).bars.get .aN).state = .raising ∧
      ((withBar .aN .lowering State.reset).bars.get .aN).timer ≠ none ∧
      ((withBar .aN .lowering State.reset).bars.get .aN).state = .lowering := by decide

/-- Each way into FAULT: the travel limit either way, and one limit beside the other. -/
theorem hyp_faults :
    (withBar .aN .raising State.reset).faults (.travelTimerExpiry .aN) .aN
        ((withBar .aN .raising State.reset).faulted .aN .travelRaise) ∧
      (withBar .aN .lowering State.reset).faults (.travelTimerExpiry .aN) .aN
        ((withBar .aN .lowering State.reset).faulted .aN .travelLower) ∧
      (bounce ⟨.aN, .up⟩ true false State.reset).faults (.debounceExpiry ⟨.aN, .up⟩) .aN
        (State.faulted { (bounce ⟨.aN, .up⟩ true false State.reset) with
          inputs := (bounce ⟨.aN, .up⟩ true false State.reset).inputsWith ⟨.aN, .up⟩ true } .aN .limits) ∧
      State.reset.effective .aN .down = true := by
  refine ⟨.inl ⟨rfl, by decide, .inl ⟨rfl, rfl⟩⟩, .inl ⟨rfl, by decide, .inr ⟨rfl, rfl⟩⟩,
    .inr ⟨.up, .down, .inl ⟨rfl, rfl⟩, rfl, by decide, by decide, by decide, rfl⟩, by decide⟩

theorem hyp_override :
    State.reset.ready ∧ parseInput (ascii "AN.LOOP") = some ⟨.aN, .loop⟩ ∧
      parseWord Override.words (ascii "FORCE_ACTIVE") = some .forceActive ∧
      parseWord Override.words (ascii "FORCE_INACTIVE") = some .forceInactive ∧
      parseWord Override.words (ascii "NONE") = some .none ∧ (State.reset.inputs.input ⟨.aN, .loop⟩).override = .none ∧
      Input.effective { State.reset.inputs.input ⟨.aN, .loop⟩ with override := .forceInactive, debounce := none } =
        State.reset.effective .aN .loop := by decide

theorem hyp_barrier_reset :
    State.reset.ready ∧ parseWord Barrier.words (ascii "AN") = some .aN ∧ (State.reset.bars.get .aN).state ≠ .fault ∧
      ((withBar .aN .fault State.reset).bars.get .aN).state = .fault ∧
      ((withBar .aN .fault State.reset).effective .aN .up && (withBar .aN .fault State.reset).effective .aN .down) = false ∧
      (withBar .aN .fault State.reset).effective .aN .down = true ∧
      (withInput ⟨.aN, .up⟩ true true none (withBar .aN .fault State.reset)).effective .aN .up = true ∧
      (withInput ⟨.aN, .down⟩ false false none (withBar .aN .fault State.reset)).effective .aN .down = false ∧
      (withInput ⟨.aN, .down⟩ false false none (withBar .aN .fault State.reset)).beamBroken .aN = false ∧
      (withInput ⟨.aN, .beam⟩ false true none (withBar .aN .fault State.reset)).beamBroken .aN = true := by decide

/-- What the users of restored barriers want: a CLOSED gate and a FREE platform want theirs down, AB its inner ones up; an OPEN
gate, a platform in HOLD and one in SWITCHING want nothing. -/
theorem hyp_barrier_wants :
    State.reset.userWantsDown .eN ∧ State.reset.userWantsDown .aN ∧ ¬ State.reset.userWantsUp .aN ∧
      (let s := { State.reset with plat := { State.reset.plat with mode := .combined } }
       s.userWantsUp .aS ∧ ¬ s.userWantsDown .aS ∧ s.userWantsDown .bS) ∧
      (let s := { State.reset with gates := State.reset.gates.set .entry { gateClosed with state := .opened } }
       ¬ s.userWantsDown .eN ∧ ¬ s.userWantsUp .eN) ∧
      (∀ st, st = PlatState.hold ∨ st = .switching →
        let s := withPlat .a (fun r => { r with state := st }) State.reset
        ¬ s.userWantsDown .aN ∧ ¬ s.userWantsUp .aN) := by
  refine ⟨.inl ⟨.entry, rfl, rfl⟩, .inr ⟨.a, rfl, rfl, nofun⟩, nofun, ⟨⟨rfl, .inl rfl, nofun⟩, ?_, .inr ⟨.ab, rfl, rfl, by decide⟩⟩,
    ⟨?_, nofun⟩, ?_⟩
  · rintro (⟨g, h, -⟩ | ⟨p, h, -, hn⟩)
    · cases g <;> cases h
    · cases h; exact (hn rfl).1 rfl
  · rintro (⟨g, h, hc⟩ | ⟨p, h, -⟩)
    · cases g <;> [cases hc; cases h]
    · cases h
  · rintro st (rfl | rfl) <;> refine ⟨?_, nofun⟩ <;> rintro (⟨g, h, -⟩ | ⟨p, h, hf, -⟩)
    all_goals first
      | (cases g <;> cases h)
      | (cases h; cases hf)

def report (text : String) : List RxByte := rx (ascii text ++ [0x0D])

def recentAt (r : Reader) (tag : Option Text) (hold : HoldTimer) (s : State) : State :=
  { s with recent := s.recent.set r { tag := tag, hold := hold } }

theorem hyp_reader_report :
    starting.running = false ∧ State.reset.running = true ∧ parseReport (report "#9,T") = none ∧
      parseReport (report "#1,4C07A19") = some (.r1, ascii "4C07A19") ∧ State.reset.loopAllows .r1 = false ∧
      (withInput ⟨.eN, .loop⟩ true true none State.reset).loopAllows .r1 = true ∧
      ((recentAt .r1 (some (ascii "4C07A19")) (.running 1) State.reset).recent.get .r1).tag = some (ascii "4C07A19") ∧
      ((recentAt .r1 (some (ascii "4C07A19")) (.running 1) State.reset).recent.get .r1).hold ≠ .expired := by decide

theorem hyp_return_read :
    parseReport (report "#3,4C07A19") = some (.r3, ascii "4C07A19") ∧ State.reset.running = true ∧
      (State.reset.recent.get .r3).fresh (ascii "4C07A19") = true ∧
      (withVisit { visit1 with state := .tipping } State.reset).visitByTag (ascii "4C07A19") =
        some { visit1 with state := .tipping } ∧
      (withVisit { visit1 with state := .tipping } State.reset).visitById 1 = some { visit1 with state := .tipping } ∧
      State.reset.visitByTag (ascii "4C07A19") = none ∧
      (withVisit visit1 State.reset).visitByTag (ascii "4C07A19") = some visit1 ∧ visit1.state ≠ .tipping := by decide

def calling : State :=
  withInput ⟨.aS, .loop⟩ true true none
    (withPlat .a (fun r => { r with state := .calling, visit := some 1, callTimer := some 120000 })
      (withVisit { visit1 with state := .called } State.reset))

theorem hyp_calling_read :
    calling.running = true ∧ parseReport (report "#5,4C07A19") = some (.r5, ascii "4C07A19") ∧
      parseReport (report "#5,T2") = some (.r5, ascii "T2") ∧ calling.loopAllows .r5 = true ∧
      (calling.recent.get .r5).fresh (ascii "4C07A19") = true ∧ (calling.recent.get .r5).fresh (ascii "T2") = true ∧
      calling.platformAt .r5 = some .a ∧ (calling.platRec .a).state = .calling ∧
      calling.boundTag .a = some (ascii "4C07A19") ∧ calling.boundTag .a ≠ some (ascii "T2") ∧
      (calling.bars.get (calling.entryBar .a)).state ≠ .fault := by decide

def atGate : State :=
  withInput ⟨.eN, .loop⟩ true true none
    { State.reset with tables := { State.reset.tables with vehicles := [(0, vehicle1)] } }

theorem hyp_entry_read :
    atGate.running = true ∧ parseReport (report "#1,4C07A19") = some (.r1, ascii "4C07A19") ∧
      atGate.effective .eN .loop = true ∧ (atGate.recent.get .r1).fresh (ascii "4C07A19") = true ∧
      (atGate.gates.get .entry).state = .closed ∧ (atGate.bars.get .eN).state ≠ .fault ∧
      atGate.visitByTag (ascii "4C07A19") = none ∧ atGate.vehicleByTag (ascii "4C07A19") = some (0, vehicle1) ∧
      vehicle1.blocked = false ∧ atGate.account vehicle1.account = some Account.cash ∧ Account.cash.active = true ∧
      Account.cash.allowance = none ∧ atGate.visits.table.length < 32 ∧ atGate.unjournalled < atGate.journalFree := by decide

theorem hyp_entry_read_others :
    (withVisit { visit1 with entered := false } atGate).visitByTag (ascii "4C07A19") = some { visit1 with entered := false } ∧
      (withVisit visit1 atGate).visitByTag (ascii "4C07A19") = some visit1 ∧ visit1.entered = true ∧
      entryRefusal atGate { vehicle1 with blocked := true } = some "VEHICLE" ∧
      atGate.visitByTag (ascii "T2") = none ∧ atGate.vehicleByTag (ascii "T2") = none ∧ atGate.watch.online = true ∧
      (atGate.recent.get .r1).fresh (ascii "T2") = true := by decide

/-- The entry gate open, its barrier in FAULT, the part OFFLINE. -/
theorem hyp_entry_read_refused :
    ((withGate .entry (fun g => { g with state := .opened }) atGate).gates.get .entry).state ≠ .closed ∧
      ((withBar .eN .fault atGate).bars.get .eN).state = .fault ∧
      (offline .hold atGate).visitByTag (ascii "T2") = none ∧ (offline .hold atGate).vehicleByTag (ascii "T2") = none ∧
      (offline .hold atGate).watch.online = false := by decide

def atExit : State := withInput ⟨.eX, .loop⟩ true true none State.reset

/-- The exit gate: a CLEARED visit, another, none, a barrier in FAULT, and a gate that is open. -/
theorem hyp_exit_read :
    atExit.running = true ∧ parseReport (report "#2,4C07A19") = some (.r2, ascii "4C07A19") ∧
      atExit.effective .eX .loop = true ∧ (atExit.recent.get .r2).fresh (ascii "4C07A19") = true ∧
      (atExit.gates.get .exit).state = .closed ∧ (atExit.bars.get .eX).state ≠ .fault ∧
      atExit.visitByTag (ascii "4C07A19") = none ∧
      (withVisit visit1 atExit).visitByTag (ascii "4C07A19") = some visit1 ∧ visit1.state ≠ .cleared ∧
      (withVisit { visit1 with state := .cleared } atExit).visitByTag (ascii "4C07A19") =
        some { visit1 with state := .cleared } ∧
      ((withBar .eX .fault atExit).bars.get .eX).state = .fault ∧
      ((withGate .exit (fun g => { g with state := .opened }) atExit).gates.get .exit).state ≠ .closed := by decide

def waitingHost : State :=
  withGate .entry (fun g => { g with state := .waitHost, pendingTag := some (ascii "T2") }) atGate

theorem hyp_admit :
    waitingHost.ready ∧ registrationOk (ascii "REG1") = true ∧ parseDec (ascii "0") = some ((0 : Nat) : Int) ∧
      parseDec (ascii "7") = some ((7 : Nat) : Int) ∧ parseWord Length.words (ascii "LONG") = some .long ∧
      parseWord Direction.words (ascii "OUTBOUND") = some .outbound ∧ parseDec (ascii "60000") = some ((60000 : Nat) : Int) ∧
      (waitingHost.gates.get .entry).state = .waitHost ∧ (waitingHost.gates.get .entry).pendingTag = some (ascii "T2") ∧
      waitingHost.account 0 = some Account.cash ∧ Account.cash.active = true ∧ Account.cash.allowance = none ∧
      waitingHost.visits.table.length < 32 ∧ waitingHost.unjournalled < waitingHost.journalFree ∧
      (waitingHost.bars.get .eN).state ≠ .fault := by decide

/-- The limits of the checks: an account whose allowance is met exactly, and a 32nd visit. -/
theorem hyp_admission_limits :
    (∀ most, ({ Account.cash with allowance := some 9000 } : Account).allowance = some most → 0 + 0 + 9000 ≤ most) ∧
      (List.replicate 31 visit1).length < 32 := by
  refine ⟨fun most h => ?_, by decide⟩
  cases h; decide

theorem hyp_gate_commands :
    State.reset.ready ∧ parseWord Gate.words (ascii "EXIT") = some .exit ∧ (State.reset.gates.get .exit).state = .closed ∧
      (State.reset.bars.get (gateBar .exit)).state ≠ .fault ∧
      ((withBar .eX .fault State.reset).bars.get (gateBar .exit)).state = .fault ∧
      waitingHost.ready ∧ (State.reset.gates.get .entry).state ≠ .waitHost ∧
      ((withGate .exit (fun g => { g with state := .opened, timer := some 1 }) State.reset).gates.get .exit).state = .opened ∧
      ((withGate .exit (fun g => { g with state := .opened, timer := some 1 }) State.reset).gates.get .exit).timer ≠ none ∧
      State.reset.drives.get (gateBar .exit) = driveOf (State.reset.bars.get (gateBar .exit)) := by decide

/-- A gate open for the visit 1, its barrier UP. -/
def openFor (g : Gate) (v : Visit) (seen : Bool) : State :=
  withGate g (fun r => { r with state := .opened, openFor := some 1, seen := seen }) (withVisit v
    { State.reset with
      bars := State.reset.bars.set (gateBar g)
        { state := .up, lowerPending := false, lamp := true, cause := none, timer := none },
      drives := State.reset.drives.set (gateBar g) { raise := false, lower := false, green := true } })

/-- A passage at either gate: the beam broken, and clear again. -/
theorem hyp_gate_passage :
    (let s := bounce ⟨.eN, .beam⟩ false false (openFor .entry { visit1 with entered := false } false)
     s.brings ⟨.eN, .beam⟩ true ∧ (s.gates.get .entry).state = .opened ∧ (s.gates.get .entry).seen = false ∧
       (s.bars.get .eN).state ≠ .lowering) ∧
    (let s := bounce ⟨.eN, .beam⟩ true true (openFor .entry { visit1 with entered := false } true)
     s.brings ⟨.eN, .beam⟩ false ∧ (s.gates.get .entry).seen = true ∧ (s.gates.get .entry).openFor = some 1 ∧
       s.drives.get .eN = driveOf (s.bars.get .eN) ∧ s.visitById 1 = some { visit1 with entered := false }) ∧
    (let s := bounce ⟨.eX, .beam⟩ true true (openFor .exit { visit1 with state := .cleared } true)
     s.brings ⟨.eX, .beam⟩ false ∧ (s.gates.get .exit).seen = true ∧ (s.gates.get .exit).openFor = some 1 ∧
       s.drives.get .eX = driveOf (s.bars.get .eX) ∧ s.visitById 1 = some { visit1 with state := .cleared }) ∧
    (withGate .exit (fun r => { r with openFor := none }) (openFor .exit visit1 true)).gates.exit.openFor = none := by decide

/-- A gate whose barrier comes DOWN or enters FAULT. -/
theorem hyp_gate_closes :
    (let s := falling .eX (withGate .exit (fun g => { g with state := .opened }) State.reset)
     s.brings ⟨.eX, .down⟩ true ∧ s.effective .eX .up = false ∧ (s.bars.get .eX).state = .lowering ∧
       (s.gates.get .exit).state = .opened) ∧
    (let s := withBar (gateBar .exit) .lowering (withGate .exit (fun g => { g with state := .opened }) State.reset)
     s.faults (.travelTimerExpiry .eX) (gateBar .exit) (s.faulted (gateBar .exit) .travelLower) ∧
       (s.gates.get .exit).state = .opened) :=
  ⟨by decide, .inl ⟨rfl, by decide, .inr ⟨by decide, rfl⟩⟩, by decide⟩

/-- WAIT_HOST with the vehicle gone from the loop, and with the barrier in motion. -/
theorem hyp_wait_ends :
    ((bounce ⟨.eN, .loop⟩ false true waitingHost).brings ⟨.eN, .loop⟩ false ∧
        (bounce ⟨.eN, .loop⟩ false true waitingHost).gates.entry.state = .waitHost) ∧
      waitingHost.gates.entry.pendingTag = some (ascii "T2") ∧
      ((withBar .eN .lowering waitingHost).bars.get .eN).timer ≠ none ∧
      ((withBar .eN .lowering waitingHost).bars.get .eN).state = .lowering ∧
      (withBar .eN .lowering waitingHost).gates.entry.state = .waitHost := by decide

/-! ## Hypotheses met: platforms and the allocator -/

/-- A visit on platform A, whose entry barrier is A-S and exit barrier A-N, in a state of the platform. -/
def onA (st : PlatState) (s : State) : State :=
  withPlat .a (fun r => { r with state := st, visit := some 1 }) (withVisit { visit1 with state := .onDeck } s)

theorem hyp_passage_common :
    (onA .entering State.reset).platUser .aS = some .a ∧ (onA .entering State.reset).platUser .aN = some .a ∧
      (onA .entering State.reset).entryBar .a = .aS ∧ (onA .entering State.reset).exitBar .a = .aN ∧
      ((onA .entering State.reset).platRec .a).visit = some 1 ∧
      (onA .entering State.reset).visitById 1 = some { visit1 with state := .onDeck } := by decide

/-- A platform whose barrier enters FAULT: FREE, held, and with a visit on it. -/
theorem hyp_fault_platform :
    (withBar .aN .raising State.reset).platUser .aN = some .a ∧ ((withBar .aN .raising State.reset).platRec .a).state = .free ∧
      ((withBar .aN .raising (onA .hold State.reset)).platRec .a).state = .hold ∧
      (withBar .aN .raising (onA .weighing State.reset)).platUser .aN = some .a ∧
      ((withBar .aN .raising (onA .weighing State.reset)).platRec .a).state = .weighing ∧
      ((withBar .aN .raising (onA .exiting State.reset)).platRec .a).state = .exiting ∧
      ((withBar .aN .raising (onA .awaiting State.reset)).platRec .a).state = .awaiting ∧
      ((withBar .aN .raising (onA .calling State.reset)).platRec .a).state = .calling := by decide

/-- The entry beam broken under A-S UP while CALLING, and while WEIGHING. -/
theorem hyp_passage_entry_broken :
    let s := bounce ⟨.aS, .beam⟩ false false (withBar .aS .up (onA .calling State.reset))
    (s.inputs.input ⟨.aS, .beam⟩).debounce ≠ none ∧ (s.inputs.input ⟨.aS, .beam⟩).override = .none ∧
      (s.inputs.input ⟨.aS, .beam⟩).deb = !s.rawLevel ⟨.aS, .beam⟩ ∧ s.rawLevel ⟨.aS, .beam⟩ = true ∧
      (s.platRec .a).state = .calling ∧ (s.bars.get .aS).state = .up ∧
      ((onA .weighing s).platRec .a).state = .weighing := by decide

theorem hyp_passage_entry_clear :
    let s := bounce ⟨.aS, .beam⟩ true true (withBar .aS .up (onA .entering State.reset))
    (s.inputs.input ⟨.aS, .beam⟩).deb = !s.rawLevel ⟨.aS, .beam⟩ ∧ s.rawLevel ⟨.aS, .beam⟩ = false ∧
      (s.platRec .a).state = .entering ∧ (s.bars.get .aS).state = .up := by decide

def leaving (seen passed : Bool) : State :=
  withPlat .a (fun r => { r with outcome := some .nextTipping, beamSeen := seen, passed := passed })
    (withBar .aN .up (onA .exiting State.reset))

theorem hyp_passage_exit :
    (let s := bounce ⟨.aN, .beam⟩ false false (leaving false false)
     (s.inputs.input ⟨.aN, .beam⟩).deb = (!s.rawLevel ⟨.aN, .beam⟩) ∧ s.rawLevel ⟨.aN, .beam⟩ = true ∧
       (s.platRec .a).state = .exiting ∧ (s.platRec .a).passed = false) ∧
    (let s := bounce ⟨.aN, .beam⟩ true true (leaving true false)
     (s.inputs.input ⟨.aN, .beam⟩).deb = (!s.rawLevel ⟨.aN, .beam⟩) ∧ s.rawLevel ⟨.aN, .beam⟩ = false ∧
       (s.platRec .a).beamSeen = true ∧ (s.bars.get .aN).state = .up) := by decide

theorem hyp_passage_down :
    let s := bounce ⟨.aN, .down⟩ true false (withBar .aN .lowering (leaving true true))
    (s.inputs.input ⟨.aN, .down⟩).deb = (!s.rawLevel ⟨.aN, .down⟩) ∧ s.rawLevel ⟨.aN, .down⟩ = true ∧
      s.effective .aN .up = false ∧ (s.bars.get .aN).state = .lowering ∧ (s.platRec .a).state = .exiting ∧
      (s.platRec .a).passed = true ∧ (s.platRec .a).outcome = some .nextTipping := by decide

def queued1 : State := queuedOnce (withVisit visit1 State.reset)

def flying1 : State := { queued1 with alloc := { queue := [{ visit := 1, mark := some .a }], flight := ⟨some 1, none, none⟩ } }

theorem hyp_grant_rule :
    queued1.chooseFor .a = some 1 ∧ State.reset.chooseFor .a = none ∧ queued1.grantable .a = true ∧
      queued1.alloc.flight.get .a = none ∧ flying1.alloc.flight.get .a ≠ none ∧ queued1.grantable .ab = false := by decide

def acmePut : AccountPut :=
  { number := 14, name := ascii "ACME", allowance := none, mask := { a := true, b := true, ab := false }, tarePermitted := false }

def heldVisit : Visit := { visit1 with state := .held, holdReason := some .host }

/-- Each event after which R128 applies its rule: a platform becomes grantable; a visit joins the call queue; one gains
ENTERED_SITE; section 5 is written; its account is written; a grant is refused. -/
theorem hyp_grant_events :
    (let s := { queued1 with plat := { queued1.plat with accepting := { a := false, b := true } } }
     let c := Instr.platformAccept [ascii "A", ascii "ACCEPTING"]
     exec c s = .next (after c s) ∧ (after c s).grantable .a = true ∧ s.grantable .a = false) ∧
    (let s := withVisit heldVisit State.reset
     let c := Instr.requeue [ascii "1"]
     exec c s = .next (after c s) ∧ 1 ∈ (after c s).queued ∧ 1 ∉ s.queued) ∧
    (let s := queuedOnce (bounce ⟨.eN, .beam⟩ true true (openFor .entry { visit1 with entered := false } true))
     let c := Instr.debounceExpiry ⟨.eN, .beam⟩
     exec c s = .next (after c s) ∧ visit1 ∈ (after c s).visits.table ∧ visit1 ∉ s.visits.table) ∧
    (let s := { queued1 with
        settings := { queued1.settings with write := some { vals := .plat PlatSet.builtIn, step := .setAccept, timer := 20 } } }
     exec .settingsTransferAck s = .next (after .settingsTransferAck s)) ∧
    (let s := yard1
     let fs := [ascii "14", ascii "ACME", [], ascii "A+B", ascii "N"]
     exec (.accountPut fs) s = .next (after (.accountPut fs) s) ∧ s.ready ∧
       parseAccountPut fs = some acmePut ∧ accountPutRefusal acmePut = none ∧
       s.visits.table = [{ visit1 with account := 14 }]) ∧
    (let s := { flying1 with plat := { flying1.plat with accepting := { a := false, b := true } } }
     exec (.grant .a) s = .next (after (.grant .a) s) ∧ s.alloc.flight.get .a = some 1 ∧ s.grantable .a = false) := by
  refine ⟨⟨rfl, by decide, by decide⟩, ⟨rfl, by decide, by decide⟩, ⟨rfl, by decide, by decide⟩, rfl, ⟨rfl, by decide⟩,
    ⟨rfl, by decide, by decide⟩⟩

theorem hyp_idle_step_acts :
    (loaded.pending = [] ∧ loaded.frameReady .a = true) ∧ (pair 7 7).pairReady = true ∧
      (flying1.flying = some .a ∧ flying1.frameReady .a = false ∧ flying1.pairReady = false) := by decide

theorem hyp_grant_arrives :
    State.reset.alloc.flight.get .a = none ∧ flying1.alloc.flight.get .a = some 1 ∧ flying1.grantable .a = true ∧
      flying1.visitById 1 = some visit1 ∧ visit1.state = .queued ∧
      ({ flying1 with plat := { flying1.plat with accepting := { a := false, b := true } } }).grantable .a = false ∧
      (withVisit { visit1 with state := .held } flying1).visitById 1 = some { visit1 with state := .held } := by decide

theorem hyp_call :
    queued1.ready ∧ parseDec (ascii "1") = some ((1 : Nat) : Int) ∧ parseDec (ascii "65535") = some ((65535 : Nat) : Int) ∧
      parseWord Platform.words (ascii "A") = some .a ∧ queued1.visitById 65535 = none ∧ queued1.visitById 1 = some visit1 ∧
      queued1.current .a = true ∧ (queued1.platRec .a).state = .free ∧ queued1.platFaulted .a = false ∧
      queued1.atRest .a = true ∧ queued1.platSuspended .a = false ∧ visit1.state = .queued ∧ visit1.entered = true ∧
      visit1.length ≠ .long ∧ queued1.current .ab = false ∧ ((onA .hold queued1).platRec .a).state ≠ .free := by decide

/-- A suspended platform: its calibration is being written. -/
def suspendedA (step : WriteStep) : State :=
  { queued1 with settings := { queued1.settings with write := some { vals := .cal .a calA, step := step, timer := 20 } } }

theorem hyp_call_suspended :
    (suspendedA .fields).platSuspended .a = true ∧ (suspendedA .fields).current .a = true ∧
      ((suspendedA .fields).platRec .a).state = .free ∧ (suspendedA .fields).platFaulted .a = false ∧
      (suspendedA .fields).atRest .a = true ∧ ({ visit1 with entered := false }).entered = false := by decide

theorem hyp_call_expiry :
    (calling.platRec .a).state = .calling ∧ (calling.platRec .a).callTimer ≠ none ∧ (calling.platRec .a).visit = some 1 ∧
      calling.visitById 1 = some { visit1 with state := .called } ∧ 0 + 1 < calling.settings.yard.noShowLimit ∧
      calling.settings.yard.noShowLimit ≤ 1 + 1 := by decide

theorem hyp_abort :
    State.reset.ready ∧ parseWord Platform.words (ascii "A") = some .a ∧ (onA .entering State.reset).current .a = true ∧
      ((onA .entering State.reset).platRec .a).state = .entering ∧ ((onA .weighing State.reset).platRec .a).state = .weighing ∧
      ((onA .awaiting State.reset).platRec .a).state = .awaiting ∧ (State.reset.platRec .a).state = .free ∧
      ((onA .exiting State.reset).platRec .a).state = .exiting ∧ ((onA .hold State.reset).platRec .a).state = .hold := by decide

def heldA (point : ResumePoint) (outcome : Option ExitOutcome) (passed : Bool) : State :=
  withPlat .a (fun r =>
    { r with holdReason := some .host, resume := some point, outcome := outcome, passed := passed }) (onA .hold State.reset)

theorem hyp_retry :
    (heldA .awaiting none false).ready ∧ (heldA .awaiting none false).current .a = true ∧
      ((heldA .awaiting none false).platRec .a).state = .hold ∧ (heldA .awaiting none false).platFaulted .a = false ∧
      ((heldA .awaiting none false).platRec .a).resume = some .awaiting ∧
      ((heldA .none none false).platRec .a).resume = some .none ∧
      ((heldA .positioning none false).platRec .a).resume = some .positioning ∧
      (heldA .positioning none false).beamBroken ((heldA .positioning none false).entryBar .a) = false ∧
      (heldA .positioning none false).beamBroken ((heldA .positioning none false).exitBar .a) = false ∧
      ((heldA .positioning none false).bars.get ((heldA .positioning none false).entryBar .a)).state = .down ∧
      ((withBar .aS .up (heldA .positioning none false)).bars.get .aS).state ≠ .down ∧
      ((heldA .exit (some .nextCleared) false).platRec .a).outcome = some .nextCleared ∧
      ((heldA .exit none false).platRec .a).outcome = none ∧ ((heldA .exit none true).platRec .a).passed = true ∧
      ((heldA .exit none true).bars.get ((heldA .exit none true).exitBar .a)).state = .down ∧
      ((withBar .aN .up (heldA .exit none true)).bars.get ((withBar .aN .up (heldA .exit none true)).exitBar .a)).state ≠ .down ∧
      (withBar .aN .fault (heldA .awaiting none false)).platFaulted .a = true := by decide

theorem hyp_release :
    (heldA .positioning none false).ready ∧ (heldA .positioning none false).current .a = true ∧
      ((heldA .positioning none false).platRec .a).state = .hold ∧
      ((heldA .positioning none false).platRec .a).visit = some 1 ∧
      (heldA .positioning none false).visitById 1 = some { visit1 with state := .onDeck } ∧
      ((heldA .positioning none false).bars.get ((heldA .positioning none false).exitBar .a)).state ≠ .fault ∧
      ((withBar .aN .fault (heldA .positioning none false)).bars.get .aN).state = .fault ∧
      ((heldA .none none false).platRec .a).resume = some .none ∧
      ((heldA .exit none false).platRec .a).resume = some .exit := by decide

def joined : State := { State.reset with plat := { State.reset.plat with mode := .combined } }

/-- A mode switch asked for, with both decks calibrated. -/
def calibrated : State :=
  { State.reset with settings := { State.reset.settings with
      status := { State.reset.settings.status with s1 := .accepted, s2 := .accepted } } }

theorem hyp_accept :
    State.reset.ready ∧ parseWord Platform.words (ascii "A") = some .a ∧
      ({ a := true, b := true } : PerDeck Bool) = State.reset.plat.accepting ∧
      ({ a := false, b := true } : PerDeck Bool) ≠ State.reset.plat.accepting := by decide

theorem hyp_mode :
    State.reset.ready ∧ parseWord Mode.words (ascii "SPLIT") = some .split ∧
      parseWord Mode.words (ascii "COMBINED") = some .combined ∧ State.reset.plat.target = none ∧
      State.reset.plat.mode = .split ∧
      ({ State.reset with plat := { State.reset.plat with target := some .combined } }).plat.target = some .combined ∧
      modeRefusal (onA .weighing calibrated) .combined = some .state ∧ modeRefusal calibrated .combined = none ∧
      calibrated.plat.mode ≠ .combined ∧ calibrated.bars.aS.state ≠ innerTarget .combined ∧
      (withBar .aS .up (withBar .bN .up State.reset)).bars.aS.state = innerTarget .combined ∧
      (withBar .aS .up (withBar .bN .up State.reset)).bars.bN.state = innerTarget .combined ∧
      modeRefusal joined .split = none ∧ joined.bars.aS.state = innerTarget .split := by decide

/-- A switch under way, the inner barriers of which are in these states. -/
def switching (m target : Mode) (aS bN : BarState) : State :=
  let sw := fun r : PlatRec => { r with state := .switching }
  let s := withBar .aS aS (withBar .bN bN { State.reset with plat := { State.reset.plat with mode := m, target := some target } })
  match m with
  | .split => withPlat .a sw (withPlat .b sw s)
  | .combined => withPlat .ab sw s

/-- An inner barrier arrives with the other in place, and not; it enters FAULT. -/
theorem hyp_switch_arrivals :
    (let s := rising .aS (switching .split .combined .raising .up)
     s.plat.target = some .combined ∧ s.platUser .aS = some .a ∧ (s.platRec .a).state = .switching ∧
       (s.bars.get .aS).state = .raising ∧ s.effective .aS .down = false ∧ (s.bars.get .aS).lowerPending = false ∧
       s.brings ⟨.aS, .up⟩ true ∧ (s.bars.get .bN).state = innerTarget .combined ∧
       ((rising .aS (switching .split .combined .raising .raising)).bars.get .bN).state ≠ innerTarget .combined) ∧
    (let s := falling .bN (switching .combined .split .down .lowering)
     s.plat.target = some .split ∧ s.platUser .bN = some .ab ∧ (s.platRec .ab).state = .switching ∧
       (s.bars.get .bN).state = .lowering ∧ s.effective .bN .up = false ∧ s.brings ⟨.bN, .down⟩ true ∧
       (s.bars.get .aS).state = innerTarget .split) ∧
    (switching .split .combined .raising .up).faults (.travelTimerExpiry .aS) .aS
      ((switching .split .combined .raising .up).faulted .aS .travelRaise) :=
  ⟨by decide, by decide, .inl ⟨rfl, by decide, .inl ⟨by decide, rfl⟩⟩⟩

/-! ## Hypotheses met: tables, visits, journal and printers -/

def putFields : List Text :=
  [ascii "4C07A19", ascii "KT92WMR", ascii "0", ascii "3", ascii "STANDARD", ascii "INBOUND", ascii "9000", ascii "90",
   ascii "N", ascii "Y", ascii "KEEP"]

def put1 : VehiclePut :=
  { tag := ascii "4C07A19", registration := ascii "KT92WMR", account := 0, cls := 3, length := .standard,
    direction := .inbound, estimate := 9000, validity := 90, blocked := false, refresh := true, keep := true }

def oneVehicle (slot : Nat) : State := { State.reset with tables := { State.reset.tables with vehicles := [(slot, vehicle1)] } }

theorem hyp_vehicle_writes :
    State.reset.ready ∧ parseVehiclePut putFields = some put1 ∧ put1.inRange = true ∧
      (State.reset.account put1.account.toNat).isSome = true ∧
      (oneVehicle 1023).vehicleByTag put1.tag = some (1023, vehicle1) ∧ (oneVehicle 1023).holderOf 1023 = none ∧
      State.reset.vehicleByTag put1.tag = none ∧ State.reset.tables.vehicles.length < 1024 ∧
      (withVisit { visit1 with vehicle := some 1023 } (oneVehicle 1023)).holderOf 1023 ≠ none ∧
      tagOk (ascii "4C07A19") = true := by decide

theorem hyp_vehicle_table_limits :
    (List.replicate 1023 (0, vehicle1)).length < 1024 ∧ 1024 ≤ (List.replicate 1024 (0, vehicle1)).length ∧
      State.reset.tablesSound := by
  refine ⟨?_, ?_, ?_⟩
  · rw [List.length_replicate]; decide
  · rw [List.length_replicate]
  · unfold State.tablesSound; decide

def accountFields : List Text := [ascii "127", ascii "ACME WASTE", ascii "120000", ascii "A+B", ascii "Y"]

def accountPut1 : AccountPut :=
  { number := 127, name := ascii "ACME WASTE", allowance := some 120000, mask := { a := true, b := true, ab := false },
    tarePermitted := true }

def twoAccounts : State :=
  { State.reset with tables := { State.reset.tables with accounts := [(0, Account.cash), (127, Account.cash)] } }

theorem hyp_account_writes :
    State.reset.ready ∧ parseAccountPut accountFields = some accountPut1 ∧ accountPutRefusal accountPut1 = none ∧
      accountPut1.number = ((127 : Nat) : Int) ∧ parseDec (ascii "127") = some ((127 : Nat) : Int) ∧
      twoAccounts.account 127 = some Account.cash ∧ parseDec (ascii "0") = some ((0 : Nat) : Int) ∧
      twoAccounts.account 0 = some Account.cash ∧ (∀ e ∈ twoAccounts.tables.vehicles, e.2.account ≠ 127) ∧
      (∀ v ∈ twoAccounts.visits.table, v.account ≠ 127) ∧
      (∃ v ∈ (withVisit { visit1 with account := 127 } twoAccounts).visits.table, v.account = 127) := by decide

/-- A visit in QUERY on platform A. -/
def queryA (st : PlatState) : State := withVisit { visit1 with state := .query } (onA st State.reset)

theorem hyp_resolve :
    (queryA .awaiting).ready ∧ parseDec (ascii "1") = some ((1 : Nat) : Int) ∧
      (queryA .awaiting).visitById 1 = some { visit1 with state := .query } ∧ (queryA .awaiting).platformOf 1 = some .a ∧
      ((queryA .awaiting).platRec .a).state = .awaiting ∧ ((queryA .hold).platRec .a).state = .hold ∧
      (queryA .awaiting).printRoom .a ∧
      ¬ (withPrinter .a (fun r => { r with queue := List.replicate 4 ticket1 }) (queryA .awaiting)).printRoom .a ∧
      parseWord ResolveAction.words (ascii "VOID") ≠ none ∧ visit1.state ≠ .query := by decide

theorem hyp_visit_commands :
    queued1.ready ∧ parseDec (ascii "1") = some ((1 : Nat) : Int) ∧ queued1.visitById 1 = some visit1 ∧
      visit1.state = .queued ∧ visit1.journalled = false ∧ ({ visit1 with journalled := true }).journalled = true ∧
      ({ visit1 with state := .called }).state = .called ∧ ({ visit1 with state := .held }).state = .held ∧
      ({ visit1 with state := .tipping }).state = .tipping := by decide

theorem hyp_journal :
    stocked.ready ∧ parseDec (ascii "1") = some ((1 : Nat) : Int) ∧ 1 ≤ stocked.tickets.journal.length ∧
      parseWord Printer.words (ascii "B") = some .b ∧
      stocked.tickets.journal.find? (fun e => e.ticket == 1) = some entry1 ∧ (stocked.printer .b).queue.length < 4 ∧
      (stocked.printer .b).state ≠ .ready ∧
      ((withPrinter .b (fun r => { r with state := .ready }) stocked).printer .b).state = .ready ∧
      ((withPrinter .b (fun r => { r with state := .ready }) stocked).printer .b).queue = [] ∧
      parseDec (ascii "999999") = some ((999999 : Nat) : Int) ∧
      stocked.tickets.journal.find? (fun e => e.ticket == 999999) = none ∧
      4 ≤ ((withPrinter .b (fun r => { r with queue := List.replicate 4 ticket1 }) stocked).printer .b).queue.length := by
  decide

/-- A visit in PRINT_WAIT on platform A, behind a full queue of printer A. -/
def printWait (st : PrinterState) : State :=
  withPrinter .a (fun r => { r with state := st, queue := List.replicate 4 ticket1 })
    (withVisit { visit1 with state := .printWait, net := some 7120 } (onA .awaiting State.reset))

theorem hyp_suppress :
    State.reset.ready ∧ parseWord Printer.words (ascii "A") = some .a ∧ parseWord onOffWords (ascii "ON") = some true ∧
      parseWord onOffWords (ascii "OFF") = some false ∧ (State.reset.printer .a).suppressed = false ∧
      ((withPrinter .a (fun r => { r with suppressed := true }) State.reset).printer .a).suppressed = true ∧
      platformOfPrinter (printWait .printing).plat.mode .a = some .a ∧
      (printWait .printing).boundVisit .a = some { visit1 with state := .printWait, net := some 7120 } := by decide

theorem hyp_no_print_wait : State.reset.noPrintWait .a := by
  intro q v hq hv
  have hq : q = .a := by
    have : platformOfPrinter State.reset.plat.mode .a = some .a := by decide
    rw [this] at hq; cases hq; rfl
  subst hq
  have : State.reset.boundVisit .a = none := by decide
  rw [this] at hv; cases hv

def printing (queue : List Ticket) (sending : Option Text) : State :=
  withPrinter .a (fun r => { r with state := .printing, queue := queue, sending := sending, statusTimer := some 30000 })
    State.reset

theorem hyp_printer_status :
    starting.running = false ∧ State.reset.running = true ∧ ((printing [ticket1] none).printer .a).state = .printing ∧
      ((printing [ticket1] none).printer .a).sending = none ∧ ((printing [ticket1] none).printer .a).queue = [ticket1] ∧
      ((printing [ticket1] none).printer .a).queue.length ≠ 4 ∧
      ((printing [ticket1, ticket1] none).printer .a).queue = ticket1 :: ticket1 :: [] ∧
      ((printWait .printing).printer .a).queue.length = 4 ∧ ((printWait .printing).printer .a).sending = none ∧
      ((printing [ticket1] (some [])).printer .a).sending ≠ none ∧ (State.reset.printer .a).state = .offline ∧
      (State.reset.printer .a).queue = [] ∧
      ((withPrinter .a (fun r => { r with state := .paperOut, queue := [ticket1] }) State.reset).printer .a).queue =
        ticket1 :: [] ∧
      ((printing [ticket1] none).printer .a).statusTimer ≠ none ∧
      ((0x51 : Byte) ≠ 0x52 ∧ (0x51 : Byte) ≠ 0x42 ∧ (0x51 : Byte) ≠ 0x50 ∧ (0x51 : Byte) ≠ 0x45) := by decide

/-! ## Hypotheses met: time, settings, start-up -/

def atSecond (n : Nat) (valid : Bool) : State :=
  { State.reset with time := { State.reset.time with second := n, day := 812, valid := valid } }

theorem hyp_second_tick :
    starting.running = false ∧ (atSecond 86398 true).time.second < 86399 ∧ 86399 ≤ (atSecond 86399 true).time.second ∧
      (atSecond 86399 true).time.valid = true ∧ (atSecond 86399 false).time.valid = false ∧
      (atSecond 86399 true).trackingA .a = none ∧ (atSecond 86399 true).trackingA .b = none ∧
      (atSecond 86399 true).current .ab = false := by decide

/-- A of 4,800 g is within the band of 10,000 g of a 20 kg division. -/
theorem hyp_tracking :
    loaded.running = true ∧ loaded.current .a = true ∧ loaded.settings.weigh.zeroTracking = true ∧
      (loaded.platRec .a).state = .free ∧ loaded.platSuspended .a = false ∧ (loaded.chains.get .a).pendingZero = false ∧
      (loaded.chains.get .a).latest.flags.valid = true ∧ (loaded.chains.get .a).latest.flags.stable = true ∧
      (loaded.chains.get .a).latest.a = some (-4800) ∧ 0 < (-4800 : Int).natAbs ∧
      (-4800 : Int).natAbs ≤ 500 * loaded.divisionOf .a ∧ (-10000 : Int).natAbs ≤ 500 * loaded.divisionOf .a ∧
      ((loaded.chains.get .a).z + -4800 - loaded.zRef .a).natAbs ≤ loaded.maxOf .a * 20 := by decide

/-- A working zero that tracking would take 1 g beyond the limit of 1,200,000 g. -/
theorem hyp_tracking_out :
    let s := zeroA fun c => { c with z := 1404801 }
    loaded.maxOf .a * 20 < ((s.chains.get .a).z + -4800 - s.zRef .a).natAbs ∧ (s.chains.get .a).zeroRange = false ∧
      s.trackingA .a = some (-4800) ∧ s.current .b = true ∧ s.trackingA .b = none ∧ s.current .ab = false ∧
      s.time.second < 86399 := by decide

theorem hyp_time_set :
    State.reset.ready ∧ parseDec (ascii "65535") = some ((65535 : Nat) : Int) ∧
      parseDec (ascii "86399") = some ((86399 : Nat) : Int) ∧ parseDec (ascii "65536") = some ((65536 : Nat) : Int) ∧
      (State.reset.time.valid = false ∧ State.reset.time.lastValid ≠ some 65535) ∧
      ((atSecond 0 true).time.valid = true ∧ ¬ 812 ≠ (atSecond 0 true).time.day) := by decide

def watched (timer : Timer) (online : Bool) : State :=
  { State.reset with watch := { period := some 60, online := online, timer := timer, offlineMs := 0 } }

theorem hyp_link_silence :
    State.reset.ready ∧ parseDec (ascii "5") = some ((5 : Nat) : Int) ∧ parseDec (ascii "300") = some ((300 : Nat) : Int) ∧
      parseDec (ascii "60") = some ((60 : Nat) : Int) ∧ (watched (some 1) true).watch.period = some 60 ∧
      State.reset.watch.period ≠ some 5 ∧ (watched (some 1) true).watch.timer ≠ none ∧ State.reset.watch.timer = none ∧
      (waitingHost.gates.get .entry).state = .waitHost ∧ (State.reset.gates.get .entry).state ≠ .waitHost ∧
      parseFrame (rx (ascii "<STATUS*E4" ++ [0x0D])) = .good (some .status) [] ∧
      (watched none false).link.started = true ∧ (watched none false).watch.online = false ∧
      (watched (some 1) true).watch.online = true ∧ (watched (some 1) false).watch.online = false ∧
      parseFrame (rx (frameText 0x3C (ascii "HELLO"))) = .good none [] ∧ (watched none false).link.inService = none ∧
      (watched none false).link.owed = [] ∧ (watched none false).link.notices = [] := by decide

def weighFields : List Text :=
  [ascii "4", ascii "4", ascii "10", ascii "1", ascii "100", ascii "10", ascii "10", ascii "10", ascii "30"]

def calFields : List Text :=
  [ascii "2", ascii "0", ascii "0", ascii "65536", ascii "65536", ascii "1048576", ascii "0", ascii "60000", ascii "20"]

def cal2 : Calib :=
  { n := 2, offsets := [0, 0], trims := [65536, 65536], span := 1048576, zCal := 0, max := 60000, d := 20 }

def weigh2 : WeighSet := { WeighSet.builtIn with n := 4, m := 4 }

theorem hyp_settings_write :
    State.reset.ready ∧ parseDec (ascii "3") = some ((3 : Nat) : Int) ∧ parseSection 3 weighFields = .ok (.weigh weigh2) ∧
      parseSection 1 calFields = .ok (.cal .a cal2) ∧ State.reset.settings.write = none ∧
      (suspendedA .fields).settings.write ≠ none ∧
      ((onA .weighing State.reset).platRec ((onA .weighing State.reset).userOfDeck .a)).state ≠ .free ∧
      (State.reset.platRec (State.reset.userOfDeck .a)).state = .free := by decide

def writing (v : SectionVals) (step : WriteStep) : State :=
  { State.reset with settings := { State.reset.settings with write := some { vals := v, step := step, timer := 20 } } }

theorem hyp_transfers :
    (writing (.weigh weigh2) .header).settings.write = some { vals := .weigh weigh2, step := .header, timer := 20 } ∧
      memWf (writing (.weigh weigh2) .header).settings.mem = true ∧ WriteStep.header ≠ .setAccept ∧
      WriteStep.clearAccept ≠ .setAccept ∧ WriteStep.counter ≠ .setAccept ∧ WriteStep.fields ≠ .setAccept ∧
      (writing (.cal .a cal2) .setAccept).settings.write = some { vals := .cal .a cal2, step := .setAccept, timer := 20 } ∧
      (SectionVals.cal .a cal2).number = 1 ∧ (SectionVals.weigh weigh2).number = 3 := by decide

/-- A counter of 0 and one of 65,535; a calibration's lists; sections 3 and 4, the latter with a polarity changed or none. -/
theorem hyp_transfer_sections :
    memNat (writing (.cal .a cal2) .counter).settings.mem 4 2 < 65535 ∧
      ¬ memNat [(4, 0xFF), (5, 0xFF)] 4 2 < 65535 ∧ cal2.offsets.length ≤ 8 ∧ cal2.trims.length ≤ 8 ∧
      (writing (.weigh weigh2) .setAccept).settings.write =
        some { vals := .weigh weigh2, step := .setAccept, timer := 20 } ∧
      (let y := { State.reset.settings.yard with travelLimit := 9 }
       (writing (.yard y) .setAccept).settings.write = some { vals := .yard y, step := .setAccept, timer := 20 } ∧
         ∀ i ∈ InputId.all, (y.inputs.input i).activeLow = (State.reset.inputSet i).activeLow) ∧
      (let y := { State.reset.settings.yard with
          inputs := State.reset.settings.yard.inputs.setInput ⟨.aN, .loop⟩ { activeLow := true, debounce := 10 } }
       (y.inputs.input ⟨.aN, .loop⟩).activeLow ≠ (State.reset.inputSet ⟨.aN, .loop⟩).activeLow) := by decide

/-- The 10 bytes of section 3's fields are one run, from the address after its accept word. -/
theorem hyp_transfer_run : ((SectionVals.weigh weigh2).chunks.map (·.1)).length = 1 := by decide

def restarting : State := withLink (fun l => { l with sending := some (.reply { reply := .ok [], restart := true }) }) State.reset

theorem hyp_reset :
    restarting.link.sending = some (.reply ⟨.ok [], true⟩) ∧ State.reset.settings.write = none ∧
      State.reset.part.signatureGood = true ∧ State.reset.ready ∧ starting.running = false ∧
      (withLink (fun l => { l with started := false }) starting).link.started = false ∧
      State.reset.running = true := by decide

theorem hyp_starting_end :
    starting.running = false ∧ starting.part.lastReset = .cold ∧
      ({ starting with part := { starting.part with lastReset := .warm } }).part.lastReset = .warm ∧
      (onA .weighing starting).current .a = true ∧ ((onA .weighing starting).platRec .a).state = .weighing ∧
      ((onA .calling starting).platRec .a).state = .calling ∧ ((onA .hold starting).platRec .a).state = .hold := by decide

theorem hyp_small_events :
    ((recentAt .r1 (some []) (.running 1) State.reset).recent.get .r1).hold = .running 1 ∧ State.reset.running = true ∧
      (AbandonedReport.mk .hashInside false).begunStarting = false ∧ starting.running = false ∧
      (AbandonedReport.mk .tooLong true).begunStarting = true ∧
      State.reset.plat.signs.sending ≠ none ∧ State.reset.plat.signs.waiting = (.b, .blank) :: [] ∧
      (after .signMessageSent State.reset).plat.signs.waiting = [] ∧
      (after .signMessageSent State.reset).plat.signs.sending ≠ none ∧
      ((printing [ticket1] (some [])).printer .a).sending ≠ none ∧ (State.reset.printer .a).enquiryTimer ≠ none := by decide

end Sys2Proof.Tests
end

section
/-! Raise and lower requests (R65, R66). A request leaves the state alone or gives the one barrier a new record (`setBar`); what
else it keeps, and the outputs, follow from that alone. One equation for each group of barrier states says which record. -/

namespace Sys2Proof.Machine

/-! ## The record a request gives its barrier -/

theorem raiseReq_of_down_or_lowering {b : Barrier} {s : State}
    (h : (s.bars.get b).state = .down ∨ (s.bars.get b).state = .lowering) :
    raiseReq b s =
      setBar b { s.bars.get b with state := .raising, lowerPending := false, timer := some s.travelMs } s := by
  rcases h with h | h <;> simp only [raiseReq, State.bar, h]

theorem raiseReq_of_raising_or_up {b : Barrier} {s : State} (h : (s.bars.get b).state = .raising ∨ (s.bars.get b).state = .up) :
    raiseReq b s = setBar b { s.bars.get b with lowerPending := false } s := by
  rcases h with h | h <;> simp only [raiseReq, State.bar, h]

theorem raiseReq_of_fault {b : Barrier} {s : State} (h : (s.bars.get b).state = .fault) : raiseReq b s = s := by
  simp only [raiseReq, State.bar, h]

theorem lowerReq_of_beam_clear {b : Barrier} {s : State} (h : (s.bars.get b).state = .raising ∨ (s.bars.get b).state = .up)
    (clear : s.effective b .beam = false) :
    lowerReq b s = setBar b ((s.bars.get b).toLowering s.travelMs) s := by
  rcases h with h | h <;> simp [lowerReq, State.bar, State.beamBroken, h, clear]

theorem lowerReq_of_beam_broken {b : Barrier} {s : State} (h : (s.bars.get b).state = .raising ∨ (s.bars.get b).state = .up)
    (broken : s.effective b .beam = true) :
    lowerReq b s = setBar b { s.bars.get b with lowerPending := true } s := by
  rcases h with h | h <;> simp [lowerReq, State.bar, State.beamBroken, h, broken]

theorem lowerReq_of_down_or_lowering_or_fault {b : Barrier} {s : State}
    (h : (s.bars.get b).state = .down ∨ (s.bars.get b).state = .lowering ∨ (s.bars.get b).state = .fault) :
    lowerReq b s = s := by
  rcases h with h | h | h <;> simp only [lowerReq, State.bar, h]

/-! ## What a state with at most one barrier's record new keeps -/

/-- The state t is s, or s with a new record of barrier b. -/
def barAtMost (b : Barrier) (s t : State) : Prop := t = s ∨ ∃ r, t = setBar b r s

theorem raiseReq_barAtMost (b : Barrier) (s : State) : barAtMost b s (raiseReq b s) := by
  cases h : (s.bars.get b).state with
  | down => exact .inr ⟨_, raiseReq_of_down_or_lowering (.inl h)⟩
  | lowering => exact .inr ⟨_, raiseReq_of_down_or_lowering (.inr h)⟩
  | raising => exact .inr ⟨_, raiseReq_of_raising_or_up (.inl h)⟩
  | up => exact .inr ⟨_, raiseReq_of_raising_or_up (.inr h)⟩
  | fault => exact .inl (raiseReq_of_fault h)

theorem lowerReq_barAtMost_of_raising_or_up {b : Barrier} {s : State}
    (h : (s.bars.get b).state = .raising ∨ (s.bars.get b).state = .up) : barAtMost b s (lowerReq b s) := by
  cases beam : s.effective b .beam with
  | false => exact .inr ⟨_, lowerReq_of_beam_clear h beam⟩
  | true => exact .inr ⟨_, lowerReq_of_beam_broken h beam⟩

theorem lowerReq_barAtMost (b : Barrier) (s : State) : barAtMost b s (lowerReq b s) := by
  cases h : (s.bars.get b).state with
  | down => exact .inl (lowerReq_of_down_or_lowering_or_fault (.inl h))
  | lowering => exact .inl (lowerReq_of_down_or_lowering_or_fault (.inr (.inl h)))
  | raising => exact lowerReq_barAtMost_of_raising_or_up (.inl h)
  | up => exact lowerReq_barAtMost_of_raising_or_up (.inr h)
  | fault => exact .inl (lowerReq_of_down_or_lowering_or_fault (.inr (.inr h)))

theorem barAtMost.bars_eq {b : Barrier} {s t : State} (h : barAtMost b s t) : t.bars = s.bars.set b (t.bars.get b) := by
  rcases h with rfl | ⟨r, rfl⟩ <;> simp

/-- Outputs that follow the barrier's record before follow its record after (R63, R70). -/
theorem barAtMost.drives_eq {b : Barrier} {s t : State} (h : barAtMost b s t)
    (follow : s.drives.get b = driveOf (s.bars.get b)) : t.drives = s.drives.set b (driveOf (t.bars.get b)) := by
  rcases h with rfl | ⟨r, rfl⟩
  · simp [← follow]
  · simp

theorem barAtMost.frame {b : Barrier} {s t : State} (h : barAtMost b s t) :
    t = { s with bars := t.bars, drives := t.drives } := by
  rcases h with rfl | ⟨r, rfl⟩ <;> rfl

/-! ## The lamp, the cause and the outputs of a motion -/

/-- A raise request gives no lamp command and no fault cause. -/
theorem raiseReq_lamp_cause (b : Barrier) (s : State) :
    ((raiseReq b s).bars.get b).lamp = (s.bars.get b).lamp ∧ ((raiseReq b s).bars.get b).cause = (s.bars.get b).cause := by
  cases h : (s.bars.get b).state with
  | down => simp [raiseReq_of_down_or_lowering (.inl h)]
  | lowering => simp [raiseReq_of_down_or_lowering (.inr h)]
  | raising => simp [raiseReq_of_raising_or_up (.inl h)]
  | up => simp [raiseReq_of_raising_or_up (.inr h)]
  | fault => simp [raiseReq_of_fault h]

theorem driveOf_raising {r : Bar} (h : r.state = .raising) : driveOf r = { raise := true, lower := false, green := false } := by
  simp [driveOf, h]

theorem driveOf_lowering {r : Bar} (h : r.state = .lowering) : driveOf r = { raise := false, lower := true, green := false } := by
  simp [driveOf, h]

/-- Settles O18: each clause from the request's equation for that group of barrier states; outputs and frame from
`barAtMost`. -/
theorem raiseAndLowerRequests : Obligations.RaiseAndLowerRequests := by
  intro b s
  have raise := raiseReq_barAtMost b s
  have lower := lowerReq_barAtMost b s
  obtain ⟨lamp, cause⟩ := raiseReq_lamp_cause b s
  refine ⟨⟨(raiseReq b s).bars.get b, raise.bars_eq, lamp, cause, fun moves => ?_, fun stays => ?_, raiseReq_of_fault,
      raise.drives_eq, raise.frame⟩,
    fun raised => ⟨fun clear => ⟨⟨false, ?_, fun _ => rfl⟩, ?_⟩, fun broken => ?_⟩,
    lowerReq_of_down_or_lowering_or_fault, lower.drives_eq, lower.frame⟩
  · simp [raiseReq_of_down_or_lowering moves, driveOf_raising, State.travelMs]
  · simp [raiseReq_of_raising_or_up stays]
  · simp [lowerReq_of_beam_clear raised clear, Bar.toLowering, State.travelMs]
  · simp [lowerReq_of_beam_clear raised clear, Bar.toLowering, driveOf_lowering]
  · simp [lowerReq_of_beam_broken raised broken]

end Sys2Proof.Machine
end

section
/-! The level of a visit (R126) by its leg and base level, and what makes it eligible for a platform (R127). -/

namespace Sys2Proof.Machine

/-! ## The level of a visit (R126) -/

theorem level_of_first {v : Visit} (s : State) (h : v.leg = .first) : s.level v = s.baseLevel v.cls := by
  simp only [State.level, h]

theorem level_of_second {v : Visit} {s : State} (h : v.leg = .second) (raised : 0 < s.baseLevel v.cls) :
    s.level v = min 3 (s.baseLevel v.cls + 1) := by
  simp only [State.level, h, if_neg raised.ne']

/-- A base level of 0 is not raised, whatever the leg. -/
theorem level_of_baseLevel_zero {v : Visit} {s : State} (h : s.baseLevel v.cls = 0) : s.level v = 0 := by
  cases leg : v.leg with
  | first => rw [level_of_first s leg, h]
  | second => simp only [State.level, leg, if_pos h]

/-- Settles O15: the level's equation for each leg, the minimum with 3 taken on either side of 3. -/
theorem levelOfVisit : Obligations.LevelOfVisit := by
  intro s v
  refine ⟨s.baseLevel v.cls, rfl, level_of_first s, fun second pos below => ?_, fun second top => ?_,
    level_of_baseLevel_zero⟩
  · rw [level_of_second second pos]
    omega
  · rw [level_of_second second (by omega)]
    omega

/-! ## The eligibility of a visit (R127) -/

theorem lengthAllows_iff {l : Length} {p : Platform} : lengthAllows l p = true ↔ (l = .long → p = .ab) := by
  cases l with
  | standard => simp [lengthAllows]
  | long => cases p <;> simp [lengthAllows]

theorem eligible_of_account_none {s : State} {v : Visit} (p : Platform) (h : s.account v.account = none) :
    s.eligible v p = false := by
  simp [State.eligible, h]

theorem eligible_iff_of_account {s : State} {v : Visit} {p : Platform} {a : Account} (h : s.account v.account = some a) :
    s.eligible v p = true ↔
      v.state = .queued ∧ v.entered = true ∧ 0 < s.level v ∧ a.mask.has p = true ∧ (v.length = .long → p = .ab) := by
  simp only [State.eligible, h, Bool.and_eq_true, beq_iff_eq, decide_eq_true_eq, lengthAllows_iff]
  tauto

/-- Settles O16: without an account no visit is eligible; with one, the account of the statement is that account. -/
theorem eligibilityOfVisit : Obligations.EligibilityOfVisit := by
  intro s v p
  cases found : s.account v.account with
  | none => simp [eligible_of_account_none p found]
  | some a => simp [eligible_iff_of_account found]

end Sys2Proof.Machine
end

section
/-! When a vehicle's stored tare is current (R150). -/

namespace Sys2Proof.Machine

/-- A day difference within bounds, subtracting from the later day or as signed numbers: the second form excludes a
tare dated after the day clock by its lower bound. -/
theorem day_window_iff_signed {day tareDay validity : Nat} :
    (tareDay ≤ day ∧ day - tareDay ≤ validity) ↔
      0 ≤ (day : Int) - tareDay ∧ (day : Int) - tareDay ≤ validity := by
  omega

theorem tareCurrent_of_tare_none {v : Vehicle} (s : State) (h : v.tare = none) : s.tareCurrent v = false := by
  simp only [State.tareCurrent, h]

theorem tareCurrent_iff_of_tare {s : State} {v : Vehicle} {t : StoredTare} (h : v.tare = some t) :
    s.tareCurrent v = true ↔
      t.unset = false ∧ s.time.valid = true ∧ t.day ≤ s.time.day ∧ s.time.day - t.day ≤ v.validity := by
  simp [State.tareCurrent, h, and_assoc]

/-- Settles O17: without a stored tare none is current; with one, the tare of the statement is that tare, and its
day window is read in signed days. -/
theorem tareIsCurrent : Obligations.TareIsCurrent := by
  intro s v
  cases stored : v.tare with
  | none => simp [tareCurrent_of_tare_none s stored]
  | some t =>
    simp only [tareCurrent_iff_of_tare stored, day_window_iff_signed, Option.some.injEq, exists_eq_left']

end Sys2Proof.Machine
end
